-- ==== Sys2Proof/Word.lean ====
section
/-! DEFINITION. The word types of the DDP-516: bit vectors for what the spec adds, shifts or masks.
Spec bit k of a 16-bit word (1 the sign, 16 the lowest, 00_scope.md R1) is bit 16 - k of the `BitVec`. -/

namespace Sys2Proof

/-- A 16-bit register or memory word (00_scope.md R9, WORD). -/
abbrev Word := BitVec 16

/-- Half a word: bits 1-8 or bits 9-16 (20_memory.md R44). -/
abbrev Byte := BitVec 8

/-- A 14-bit word address, P3-P16 (00_scope.md R9, ADDR_BITS). -/
abbrev Addr := BitVec 14

end Sys2Proof
end

