-- ==== Sys2Proof/Syntax.lean ====
section
/-! DEFINITION. The instructions of the DDP-516: one constructor per row of spec/opcode_table.json, in the table's order. -/

namespace Sys2Proof

/-- The operand of an MR-type instruction that can be indexed (30_encoding.md R64). -/
structure MemRef where
  /-- I: 1 = indirect. -/
  indirect : Bool
  /-- T, the tag bit: 1 = indexed. -/
  indexed : Bool
  /-- S: 0 = sector 0, 1 = the sector of this instruction. -/
  ownSector : Bool
  /-- D: displacement in the sector. -/
  disp : BitVec 9
  deriving DecidableEq, Repr

/-- The operand of LDX and STX, whose bit 2 is op code and which cannot be indexed (30_encoding.md R68). -/
structure PlainRef where
  /-- I: 1 = indirect. -/
  indirect : Bool
  /-- S: 0 = sector 0, 1 = the sector of this instruction. -/
  ownSector : Bool
  /-- D: displacement in the sector. -/
  disp : BitVec 9
  deriving DecidableEq, Repr

/-- What an IO-type instruction addresses (30_encoding.md R67). -/
structure IoAddr where
  /-- F, the function code. -/
  function : BitVec 4
  /-- DEV, the device address. -/
  device : BitVec 6
  deriving DecidableEq, Repr

/-- The 72 instructions. A shift's operand is the number n of positions, 0 to 63 (30_encoding.md R65). -/
inductive Instr where
  -- type G (30_encoding.md R70)
  | hlt | ink | iab | enb | inh
  | skp | src | sr4 | sr3 | sr2 | sr1 | ssr | sze | slz | spl
  | nop | ssc | ss4 | ss3 | ss2 | ss1 | sss | snz | sln | smi
  | chs | cra | ssp | rcb | csa | cma | ssm | scb
  | car | cal | icl | aoa | aca | icr | ica | tca | otk
  -- type MR (30_encoding.md R71)
  | jmp (m : MemRef) | lda (m : MemRef) | ana (m : MemRef) | sta (m : MemRef)
  | era (m : MemRef) | add (m : MemRef) | sub (m : MemRef) | jst (m : MemRef)
  | cas (m : MemRef) | irs (m : MemRef) | ima (m : MemRef)
  | stx (m : PlainRef) | ldx (m : PlainRef)
  -- type SH (30_encoding.md R72)
  | lrl (n : BitVec 6) | lrs (n : BitVec 6) | lrr (n : BitVec 6) | lgr (n : BitVec 6)
  | ars (n : BitVec 6) | arr (n : BitVec 6) | lll (n : BitVec 6) | lls (n : BitVec 6)
  | llr (n : BitVec 6) | lgl (n : BitVec 6) | als (n : BitVec 6) | alr (n : BitVec 6)
  -- type IO (30_encoding.md R73)
  | ocp (io : IoAddr) | sks (io : IoAddr) | ina (io : IoAddr) | ota (io : IoAddr) | smk
  deriving DecidableEq, Repr

end Sys2Proof
end

