-- ==== Sys2Proof/Config.lean ====
section
/-! DEFINITION. What is fixed for the machine, and the free values: constants without a body, one for each value the
spec leaves open after an instruction that goes on, and one for each operation of the devices and of the operator, of which the
spec gives the type alone. Nothing about a free value can be proved. -/

namespace Sys2Proof

/-- The default of MEMSIZE, in words (00_scope.md R9). -/
def Config.defaultMemSize : Nat := 16384

/-- The least MEMSIZE (00_scope.md R9): locations '00000 and '00063 exist. -/
def Config.minMemSize : Nat := 64

/-- The greatest MEMSIZE (20_memory.md R40): all 14-bit addresses. -/
def Config.maxMemSize : Nat := 16384

/-- FREE VALUE, DESIGN CHOICE of form (log 5, safe): the `draw(5)` that SH-type instructions and TCA leave in the Shift
Count (10_state.md R16), as a function of how many values were drawn before. -/
opaque Config.freeShiftCount : Nat → BitVec 5

/-- FREE VALUE, DESIGN CHOICE of form (log 6, safe): whether an INA with IR[7] = 1 that finds its device not ready has
cleared A (44_input_output.md R181, both answers are admitted), as a function of how many values were drawn before. -/
opaque Config.freeClearsWhenNotReady : Nat → Bool

/-! ## The devices and the operator, left open

FREE VALUES, DESIGN CHOICE of form (log 8, log 9, log 20, safe). A number stands for everything inside the devices, of which the
spec has an abstract state only; the functions below are the operations of 44_input_output.md R180 on it. -/

/-- The devices after `Dev.ocp`. -/
opaque Config.insideAfterPulse : Nat → IoAddr → Nat

/-- The devices after `Dev.ina`. -/
opaque Config.insideAfterInput : Nat → IoAddr → Nat

/-- The devices after `Dev.ota`, which may depend on the word. -/
opaque Config.insideAfterOutput : Nat → IoAddr → Word → Nat

/-- The devices after `Dev.smk`; MASK is held beside them. -/
opaque Config.insideAfterMask : Nat → Word → Nat

/-- The devices after `Dev.tick`, non-deterministic: a function of how many such moves they made before, too. -/
opaque Config.insideAfterTick : Nat → Nat → Nat

/-- What `Dev.sks` answers. -/
opaque Config.lineSet : Nat → IoAddr → Bool

/-- What `Dev.ina` answers: the word, or none for `notready`. -/
opaque Config.wordOffered : Nat → IoAddr → Option Word

/-- What `Dev.ota` answers, which may depend on the word. -/
opaque Config.wordTaken : Nat → IoAddr → Word → Bool

/-- The interrupt requests raised inside, each with its mask flip-flop, counted from 0 at bit 1 of MASK, and the value that
lets it pass (60_exceptions.md R264, 93_implementation_defined.md U16). -/
opaque Config.requestsRaised : Nat → List (Fin 16 × Bool)

/-- Where the operator has sense switch i + 1 after his move (10_state.md R21): a function of which operator it is and of how
many moves he made before. -/
opaque Config.switchSet : Nat → Nat → Fin 4 → Bool

/-- Whether START is pressed in that move (60_exceptions.md R275). -/
opaque Config.startPressed : Nat → Nat → Bool

end Sys2Proof
end

