-- ==== Sys2Proof/WellFormed.lean ====
section
/-! DEFINITION. Which instruction terms stand for a word. Every operand field is bounded by its type; the one check left is
that OTA does not take the two words of device '20 that are SMK and OTK (30_encoding.md R67, R74). -/

namespace Sys2Proof

/-- The I/O address of SMK under op code '74: function '00, device '20 (30_encoding.md R73). -/
def smkAddr : IoAddr := ⟨0o00, 0o20⟩

/-- The I/O address of OTK under op code '74: function '10, device '20 (30_encoding.md R67). -/
def otkAddr : IoAddr := ⟨0o10, 0o20⟩

/-- The instruction has an encoding of its own. -/
def Instr.wellFormed : Instr → Bool
  | .ota io => io != smkAddr && io != otkAddr
  | .hlt | .ink | .iab | .enb | .inh | .skp | .src | .sr4 | .sr3 | .sr2 | .sr1 | .ssr | .sze | .slz | .spl | .nop | .ssc
  | .ss4 | .ss3 | .ss2 | .ss1 | .sss | .snz | .sln | .smi | .chs | .cra | .ssp | .rcb | .csa | .cma | .ssm | .scb | .car
  | .cal | .icl | .aoa | .aca | .icr | .ica | .tca | .otk => true
  | .jmp _ | .lda _ | .ana _ | .sta _ | .era _ | .add _ | .sub _ | .jst _ | .cas _ | .irs _ | .ima _ | .stx _ | .ldx _ => true
  | .lrl _ | .lrs _ | .lrr _ | .lgr _ | .ars _ | .arr _ | .lll _ | .lls _ | .llr _ | .lgl _ | .als _ | .alr _ => true
  | .ocp _ | .sks _ | .ina _ | .smk => true

end Sys2Proof
end

