-- ==== Sys2Proof/Decode.lean ====
section
/-! DEFINITION. The decoder (30_encoding.md R62 to R75), total on all words and rejecting by name, and after it the encoder.
The field positions are the spec's from general knowledge (PRESUMED, log 15, unsafe); the four shift op codes the source
misprints are the corrected ones of R72 and TCA is '141407 as R70 has it (log 13). -/

namespace Sys2Proof

/-- Why a word matches no row of the opcode table (the spaces of 30_encoding.md R75). -/
inductive UndefinedWord where
  /-- An unlisted word of the three type-G spaces. -/
  | generic
  /-- A word of the shift space with IR[7:10] one of 0011, 0111, 1011, 1111. -/
  | shift
  /-- IR[3:6] is '16 or '17. -/
  | opCode
  deriving DecidableEq, Repr

/-! ## Fields of a word -/

/-- Bit 1, I in an MR word and in an address word; the sign of a number. -/
def bit1 (w : Word) : Bool := w.getLsbD 15

/-- Bit 2, T in an MR word and in an address word. -/
def bit2 (w : Word) : Bool := w.getLsbD 14

/-- Bit 3. -/
def bit3 (w : Word) : Bool := w.getLsbD 13

/-- Bit 7, S in an MR word. -/
def bit7 (w : Word) : Bool := w.getLsbD 9

/-- Bit 16, the lowest. -/
def bit16 (w : Word) : Bool := w.getLsbD 0

/-- Bits 3-16, the address in an address word. -/
def addressField (w : Word) : Addr := w.extractLsb' 0 14

/-- Bits 8-16, D in an MR word. -/
def dispField (w : Word) : BitVec 9 := w.extractLsb' 0 9

/-- The operand of an MR word (30_encoding.md R64). -/
def memRefField (w : Word) : MemRef := ⟨bit1 w, bit2 w, bit7 w, dispField w⟩

/-- The operand of an LDX or STX word (30_encoding.md R68). -/
def plainRefField (w : Word) : PlainRef := ⟨bit1 w, bit7 w, dispField w⟩

/-- n of an SH word: bits 11-16 hold K, its six-bit two's complement, n = (64 - K) mod 64 (30_encoding.md R65). -/
def countField (w : Word) : BitVec 6 := -(w.extractLsb' 0 6)

/-- F and DEV of an IO word (30_encoding.md R67). -/
def ioField (w : Word) : IoAddr := ⟨w.extractLsb' 6 4, w.extractLsb' 0 6⟩

/-! ## The opcode table -/

/-- A row of the opcode table: a word w is this row's when `w &&& mask = pattern` (30_encoding.md R74). -/
structure Row where
  mnemonic : String
  mask : Word
  pattern : Word
  build : Word → Instr

/-- A type-G row: the whole word is the op code (30_encoding.md R63). -/
def genericRow (mnemonic : String) (word : Word) (i : Instr) : Row := ⟨mnemonic, 0xFFFF, word, fun _ => i⟩

/-- An MR row: op code in bits 3-6 (30_encoding.md R64). -/
def memRefRow (mnemonic : String) (op : BitVec 4) (build : MemRef → Instr) : Row :=
  ⟨mnemonic, 0x3C00, op.setWidth 16 <<< 10, fun w => build (memRefField w)⟩

/-- The LDX and STX rows: bit 2 belongs to the op code (30_encoding.md R68). -/
def plainRefRow (mnemonic : String) (op : BitVec 5) (build : PlainRef → Instr) : Row :=
  ⟨mnemonic, 0x7C00, op.setWidth 16 <<< 10, fun w => build (plainRefField w)⟩

/-- An SH row: op code in bits 1-10 (30_encoding.md R65). -/
def shiftRow (mnemonic : String) (op : BitVec 10) (build : BitVec 6 → Instr) : Row :=
  ⟨mnemonic, 0xFFC0, op.setWidth 16 <<< 6, fun w => build (countField w)⟩

/-- An IO row: op code in bits 1-6 (30_encoding.md R67). -/
def ioRow (mnemonic : String) (op : BitVec 6) (build : IoAddr → Instr) : Row :=
  ⟨mnemonic, 0xFC00, op.setWidth 16 <<< 10, fun w => build (ioField w)⟩

/-- Type G, words '000000 to '001777 and '100000 to '101777 (30_encoding.md R70). -/
def genericSkipRows : List Row :=
  [ genericRow "HLT" 0o000000 .hlt, genericRow "INK" 0o000043 .ink, genericRow "IAB" 0o000201 .iab,
    genericRow "ENB" 0o000401 .enb, genericRow "INH" 0o001001 .inh,
    genericRow "SKP" 0o100000 .skp, genericRow "SRC" 0o100001 .src, genericRow "SR4" 0o100002 .sr4,
    genericRow "SR3" 0o100004 .sr3, genericRow "SR2" 0o100010 .sr2, genericRow "SR1" 0o100020 .sr1,
    genericRow "SSR" 0o100036 .ssr, genericRow "SZE" 0o100040 .sze, genericRow "SLZ" 0o100100 .slz,
    genericRow "SPL" 0o100400 .spl, genericRow "NOP" 0o101000 .nop, genericRow "SSC" 0o101001 .ssc,
    genericRow "SS4" 0o101002 .ss4, genericRow "SS3" 0o101004 .ss3, genericRow "SS2" 0o101010 .ss2,
    genericRow "SS1" 0o101020 .ss1, genericRow "SSS" 0o101036 .sss, genericRow "SNZ" 0o101040 .snz,
    genericRow "SLN" 0o101100 .sln, genericRow "SMI" 0o101400 .smi ]

/-- Type G, words '140000 to '141777, and OTK (30_encoding.md R70). -/
def genericRegisterRows : List Row :=
  [ genericRow "CHS" 0o140024 .chs, genericRow "CRA" 0o140040 .cra, genericRow "SSP" 0o140100 .ssp,
    genericRow "RCB" 0o140200 .rcb, genericRow "CSA" 0o140320 .csa, genericRow "CMA" 0o140401 .cma,
    genericRow "SSM" 0o140500 .ssm, genericRow "SCB" 0o140600 .scb, genericRow "CAR" 0o141044 .car,
    genericRow "CAL" 0o141050 .cal, genericRow "ICL" 0o141140 .icl, genericRow "AOA" 0o141206 .aoa,
    genericRow "ACA" 0o141216 .aca, genericRow "ICR" 0o141240 .icr, genericRow "ICA" 0o141340 .ica,
    genericRow "TCA" 0o141407 .tca, genericRow "OTK" 0o171020 .otk ]

/-- Type MR (30_encoding.md R71). -/
def memRefRows : List Row :=
  [ memRefRow "JMP" 0o01 .jmp, memRefRow "LDA" 0o02 .lda, memRefRow "ANA" 0o03 .ana, memRefRow "STA" 0o04 .sta,
    memRefRow "ERA" 0o05 .era, memRefRow "ADD" 0o06 .add, memRefRow "SUB" 0o07 .sub, memRefRow "JST" 0o10 .jst,
    memRefRow "CAS" 0o11 .cas, memRefRow "IRS" 0o12 .irs, memRefRow "IMA" 0o13 .ima,
    plainRefRow "STX" 0o15 .stx, plainRefRow "LDX" 0o35 .ldx ]

/-- Type SH, op codes as corrected (30_encoding.md R72). -/
def shiftRows : List Row :=
  [ shiftRow "LRL" 0o0400 .lrl, shiftRow "LRS" 0o0401 .lrs, shiftRow "LRR" 0o0402 .lrr, shiftRow "LGR" 0o0404 .lgr,
    shiftRow "ARS" 0o0405 .ars, shiftRow "ARR" 0o0406 .arr, shiftRow "LLL" 0o0410 .lll, shiftRow "LLS" 0o0411 .lls,
    shiftRow "LLR" 0o0412 .llr, shiftRow "LGL" 0o0414 .lgl, shiftRow "ALS" 0o0415 .als, shiftRow "ALR" 0o0416 .alr ]

/-- Type IO; SMK is an exact word and stands before OTA (30_encoding.md R73, R74). -/
def ioRows : List Row :=
  [ genericRow "SMK" 0o170020 .smk, ioRow "OCP" 0o14 .ocp, ioRow "SKS" 0o34 .sks, ioRow "INA" 0o54 .ina,
    ioRow "OTA" 0o74 .ota ]

/-- The 72 rows, the exact words OTK and SMK before OTA, so that the first row that matches is the one whose mask has the
most one-bits (30_encoding.md R74). -/
def opcodeTable : List Row := genericSkipRows ++ genericRegisterRows ++ memRefRows ++ shiftRows ++ ioRows

/-- Row r matches the word w (30_encoding.md R74). -/
def Row.accepts (r : Row) (w : Word) : Bool := w &&& r.mask == r.pattern

/-- The space of 30_encoding.md R75 an unlisted word lies in. -/
def undefinedKind (w : Word) : UndefinedWord :=
  if w.extractLsb' 10 4 = 0 then
    if w.extractLsb' 14 2 = 1 then .shift else .generic
  else .opCode

/-- `decode(IR)` of 30_encoding.md R74; a word of no row is rejected (R75). -/
def decode (w : Word) : Except UndefinedWord Instr :=
  match opcodeTable.find? (fun r => r.accepts w) with
  | some r => .ok (r.build w)
  | none => .error (undefinedKind w)

/-- The instruction the decoder reads from an instruction of nbits bits w (every instruction is one 16-bit word, 30_encoding.md R60). -/
def decodeTableWord (nbits w : Nat) : Option Instr :=
  match decode (BitVec.ofNat 16 (w % 2 ^ nbits)) with
  | .ok i => some i
  | .error _ => none

/-! ## The encoder -/

/-- An MR word: I, T, OP, S, D (30_encoding.md R64). -/
def memRefWord (op : BitVec 4) (m : MemRef) : Word :=
  BitVec.ofBool m.indirect ++ BitVec.ofBool m.indexed ++ op ++ BitVec.ofBool m.ownSector ++ m.disp

/-- An LDX or STX word, `t` the tag bit that is op code (30_encoding.md R68). -/
def plainRefWord (t : Bool) (m : PlainRef) : Word := memRefWord 0o15 ⟨m.indirect, t, m.ownSector, m.disp⟩

/-- An SH word: OP10 and K = (64 - n) mod 64 (30_encoding.md R65). -/
def shiftWord (op : BitVec 10) (n : BitVec 6) : Word := op ++ (-n)

/-- An IO word: OP6, F, DEV (30_encoding.md R67). -/
def ioWord (op : BitVec 6) (io : IoAddr) : Word := op ++ io.function ++ io.device

/-- The word of an instruction (30_encoding.md R70 to R73). -/
def encode : Instr → Word
  | .hlt => 0o000000 | .ink => 0o000043 | .iab => 0o000201 | .enb => 0o000401 | .inh => 0o001001
  | .skp => 0o100000 | .src => 0o100001 | .sr4 => 0o100002 | .sr3 => 0o100004 | .sr2 => 0o100010
  | .sr1 => 0o100020 | .ssr => 0o100036 | .sze => 0o100040 | .slz => 0o100100 | .spl => 0o100400
  | .nop => 0o101000 | .ssc => 0o101001 | .ss4 => 0o101002 | .ss3 => 0o101004 | .ss2 => 0o101010
  | .ss1 => 0o101020 | .sss => 0o101036 | .snz => 0o101040 | .sln => 0o101100 | .smi => 0o101400
  | .chs => 0o140024 | .cra => 0o140040 | .ssp => 0o140100 | .rcb => 0o140200 | .csa => 0o140320
  | .cma => 0o140401 | .ssm => 0o140500 | .scb => 0o140600 | .car => 0o141044 | .cal => 0o141050
  | .icl => 0o141140 | .aoa => 0o141206 | .aca => 0o141216 | .icr => 0o141240 | .ica => 0o141340
  | .tca => 0o141407 | .otk => 0o171020
  | .jmp m => memRefWord 0o01 m | .lda m => memRefWord 0o02 m | .ana m => memRefWord 0o03 m
  | .sta m => memRefWord 0o04 m | .era m => memRefWord 0o05 m | .add m => memRefWord 0o06 m
  | .sub m => memRefWord 0o07 m | .jst m => memRefWord 0o10 m | .cas m => memRefWord 0o11 m
  | .irs m => memRefWord 0o12 m | .ima m => memRefWord 0o13 m
  | .stx m => plainRefWord false m | .ldx m => plainRefWord true m
  | .lrl n => shiftWord 0o0400 n | .lrs n => shiftWord 0o0401 n | .lrr n => shiftWord 0o0402 n
  | .lgr n => shiftWord 0o0404 n | .ars n => shiftWord 0o0405 n | .arr n => shiftWord 0o0406 n
  | .lll n => shiftWord 0o0410 n | .lls n => shiftWord 0o0411 n | .llr n => shiftWord 0o0412 n
  | .lgl n => shiftWord 0o0414 n | .als n => shiftWord 0o0415 n | .alr n => shiftWord 0o0416 n
  | .ocp io => ioWord 0o14 io | .sks io => ioWord 0o34 io | .ina io => ioWord 0o54 io
  | .ota io => ioWord 0o74 io | .smk => 0o170020

/-! ## The assembler's two address notations (30_encoding.md R76) -/

/-- `DAC`: an address word, I in bit 1, T in bit 2, the address in bits 3-16. -/
def addressWord (indirect indexed : Bool) (y : Addr) : Word := BitVec.ofBool indirect ++ BitVec.ofBool indexed ++ y

/-- S and D of `LDA addr` at location `l`: sector 0 when addr < '01000, else the instruction's own sector, else not
encodable directly. -/
def directOperand (l y : Addr) : Option (Bool × BitVec 9) :=
  if y < 0o01000 then some (false, y.extractLsb' 0 9)
  else if y.extractLsb' 9 5 = l.extractLsb' 9 5 then some (true, y.extractLsb' 0 9)
  else none

end Sys2Proof
end

