-- ==== Sys2Proof/Machine/State.lean ====
section
/-! DEFINITION. The state of the machine as plain data (10_state.md), the reasons a step can stop, and the state after reset. -/

namespace Sys2Proof.Machine

/-- Memory: (cell, byte) pairs, cells strictly rising, no byte equal to what an unlisted cell reads as. Word a is the two
cells 2a (bits 1-8) and 2a+1 (bits 9-16); no instruction can see the cells (20_memory.md R44). DESIGN CHOICE, log 1, safe. -/
abbrev Memory := List Host.Cell

/-- The four console sense switches, true = Set = ON (10_state.md R21). -/
structure SenseSwitches where
  sw1 : Bool
  sw2 : Bool
  sw3 : Bool
  sw4 : Bool
  deriving DecidableEq, Repr

/-- A device asking for a program interrupt (60_exceptions.md R264): the request passes the device's mask flip-flop. Which bit
of MASK that is and which value of it lets the request pass are the device's (93_implementation_defined.md U16). -/
structure Request where
  /-- The mask flip-flop, counted from 0 at bit 1 of MASK. -/
  maskBit : Fin 16
  /-- The value of the flip-flop that lets the request pass. -/
  passesWhen : Bool
  deriving DecidableEq, Repr

/-- What can move the devices on (44_input_output.md R180): the four instructions that answer a new `dv`, and `Dev.tick`. -/
inductive Stimulus where
  /-- OCP. -/
  | pulse (io : IoAddr)
  /-- INA. -/
  | input (io : IoAddr)
  /-- OTA with its word. -/
  | output (io : IoAddr) (w : Word)
  /-- SMK with its word. -/
  | mask (w : Word)
  /-- `Dev.tick`. -/
  | time
  deriving DecidableEq, Repr

/-- One condition of devices that are given as a table: what they answer in it, and the number of the condition each stimulus
takes them to. A stimulus not listed leaves them in it. -/
structure Panel where
  /-- The addresses whose tested line is set (SKS). -/
  lines : List IoAddr
  /-- The words the devices offer, the first for an address being the one INA gets; an address not listed is not ready. -/
  offers : List (IoAddr × Word)
  /-- What the devices would take (OTA): at an address one word, or with none any word. -/
  takes : List (IoAddr × Option Word)
  /-- The devices that ask for an interrupt. -/
  requests : List Request
  /-- The conditions reached from this one. -/
  next : List (Stimulus × Nat)
  deriving DecidableEq, Repr

/-- What is behind the I/O instructions (44_input_output.md R180). A state may have either, so a claim over all states assumes
nothing of the devices but the types of their operations (log 8). -/
inductive Devices where
  /-- Devices given as a table of conditions, and the number of the present one. -/
  | listed (panels : List Panel) (current : Nat)
  /-- Any devices: what is inside, on which `Config`'s operations act, and how many moves of their own they have made. -/
  | arbitrary (inside moves : Nat)
  deriving DecidableEq, Repr

/-- What an IO instruction did to the devices. SKS does nothing to them (44_input_output.md R185). -/
inductive IoEvent where
  /-- A control pulse (OCP). -/
  | pulse (io : IoAddr)
  /-- An input (INA) and the word it got, none if the device was not ready. -/
  | input (io : IoAddr) (got : Option Word)
  /-- A word offered by OTA, and whether the device took it. -/
  | output (io : IoAddr) (w : Word) (taken : Bool)
  /-- The word SMK transferred to the mask flip-flops. -/
  | mask (w : Word)
  deriving DecidableEq, Repr

/-- The device environment's state `dv` (44_input_output.md R180), log 8. The record is the model's own: no answer depends on it. -/
structure DeviceEnv where
  /-- MASK, the external device mask flip-flops (10_state.md R22). -/
  mask : Word
  /-- The devices. -/
  devices : Devices
  /-- What reached the devices so far, newest first. -/
  record : List IoEvent
  deriving DecidableEq, Repr

/-- One move of the operator before a step: where the switches stand, and whether START is pressed (60_exceptions.md R275). -/
structure OperatorMove where
  switches : SenseSwitches
  start : Bool
  deriving DecidableEq, Repr

/-- The operator. A state may have either, so a claim over all states holds for every operator (log 20). -/
inductive Operator where
  /-- These moves, one before each step, and then none any more. -/
  | listed (moves : List OperatorMove)
  /-- Any operator, who moves before every step without end: which one, and how many moves were made. -/
  | arbitrary (who moves : Nat)
  deriving DecidableEq, Repr

/-- The state: every piece of 10_state.md section 1, MEMSIZE, and the model's own `operator` and `draws`. -/
structure State where
  /-- Accumulator (R10). -/
  a : Word
  /-- Second register (R11). -/
  b : Word
  /-- Index register (R12). -/
  x : Word
  /-- Program counter P3-P16 (R13). -/
  p : Addr
  /-- The C bit (R14). -/
  c : Bool
  /-- DP Mode (R18). -/
  dp : Bool
  /-- EXTMD (R19). -/
  extmd : Bool
  /-- Shift Count (R16). -/
  sc : BitVec 5
  /-- PI, permit interrupt status (R17). -/
  pi : Bool
  /-- PIDELAY, ENB's one-instruction delay (R17). -/
  piDelay : Bool
  /-- Halt mode (R20). -/
  halt : Bool
  /-- M (R23). -/
  mem : Memory
  /-- MEMSIZE in words (00_scope.md R9). No instruction changes it. -/
  memSize : Nat
  /-- Sense switches 1 to 4 (R21). -/
  switches : SenseSwitches
  /-- The device environment (44_input_output.md R180). -/
  dev : DeviceEnv
  /-- MODEL'S OWN: the operator, who sets the switches and presses START (log 20). -/
  operator : Operator
  /-- MODEL'S OWN: how many free values have been drawn (log 5). -/
  draws : Nat
  deriving DecidableEq, Repr

/-- Why the machine makes no step. The spec has no exception of this kind (60_exceptions.md R260); both are the spec's own
"non-progress outcomes" (R261). -/
inductive Fault where
  /-- Raised by `idle`: HALT = 1 and no START is coming: a final state (70_reset_and_hazards.md R303). Safe. -/
  | halted
  /-- Raised by `followIndirect`: the indirect chain never ends, the instruction never completes and no interrupt can be
  taken (30_encoding.md R66 point (e)). Safe. -/
  | endlessIndirect
  deriving DecidableEq, Repr

/-- `refuse(reason)`: the spec defines no next state (60_exceptions.md R261, the complete list, after the first). Safe. -/
inductive Refusal where
  /-- Raised by an arm of `exec` whose instruction has no meaning yet; no arm does. Safe. -/
  | notModelled (mnemonic : String)
  /-- Raised by `memRead` and `memWrite`: address at or above MEMSIZE (20_memory.md R41, R42). Safe. -/
  | outsideInstalledMemory
  /-- Raised by `fetchDecode`: the word matches no row (30_encoding.md R75). Safe. -/
  | undefinedWord (why : UndefinedWord)
  /-- Raised by every MR-type instruction when DP = 1 (30_encoding.md R78). Safe. -/
  | dpModeSet
  /-- Raised by every MR-type instruction and by interrupt entry when EXTMD = 1 (30_encoding.md R78, 60_exceptions.md R268). Safe. -/
  | extmdSet
  deriving DecidableEq, Repr

/-- A condition of R180's "simplest" kind: no line set, nothing offered, taken or requested, and no other reached from it. -/
def Panel.quiet : Panel := { lines := [], offers := [], takes := [], requests := [], next := [] }

/-- The state after reset. The spec gives no reset value (10_state.md R26), and MEMSIZE's default alone (00_scope.md R9).
DESIGN CHOICE (log 2, log 3, log 7, log 8, log 20, unsafe): zero everywhere, switches OFF, devices quiet, no operator, HALT = 0
as a run needs it (70_reset_and_hazards.md R302). A claim must not rest on these values: any State is an InitialState. -/
def State.reset : State :=
  { a := 0, b := 0, x := 0, p := 0, c := false, dp := false, extmd := false, sc := 0, pi := false, piDelay := false,
    halt := false, mem := [], memSize := Config.defaultMemSize,
    switches := { sw1 := false, sw2 := false, sw3 := false, sw4 := false },
    dev := { mask := 0, devices := .listed [Panel.quiet] 0, record := [] }, operator := .listed [], draws := 0 }

end Sys2Proof.Machine
end

