-- ==== Sys2Proof/Machine/Devices.lean ====
section
/-! DEFINITION. The device environment's operations, with the names and the types of 44_input_output.md R180, and the operator's
moves. Of arbitrary devices and of an arbitrary operator nothing else is assumed (log 8, log 20). -/

namespace Sys2Proof.Machine

/-! ## The devices -/

/-- The condition devices given as a table are in; quiet, if the table does not list it. -/
def panelAt (panels : List Panel) (current : Nat) : Panel := panels[current]?.getD Panel.quiet

/-- The devices after a stimulus. -/
def Devices.react : Devices → Stimulus → Devices
  | .listed panels current, e => .listed panels (((panelAt panels current).next.lookup e).getD current)
  | .arbitrary inside moves, .pulse io => .arbitrary (Config.insideAfterPulse inside io) moves
  | .arbitrary inside moves, .input io => .arbitrary (Config.insideAfterInput inside io) moves
  | .arbitrary inside moves, .output io w => .arbitrary (Config.insideAfterOutput inside io w) moves
  | .arbitrary inside moves, .mask w => .arbitrary (Config.insideAfterMask inside w) moves
  | .arbitrary inside moves, .time => .arbitrary (Config.insideAfterTick inside moves) (moves + 1)

/-- Is the tested line set. -/
def Devices.lineSet : Devices → IoAddr → Bool
  | .listed panels current, io => (panelAt panels current).lines.contains io
  | .arbitrary inside _, io => Config.lineSet inside io

/-- The word offered, none if the device is not ready. -/
def Devices.offer : Devices → IoAddr → Option Word
  | .listed panels current, io => (panelAt panels current).offers.lookup io
  | .arbitrary inside _, io => Config.wordOffered inside io

/-- Would the device take the word. -/
def Devices.takes : Devices → IoAddr → Word → Bool
  | .listed panels current, io, w =>
    (panelAt panels current).takes.any fun p => p.1 == io && (p.2 == none || p.2 == some w)
  | .arbitrary inside _, io, w => Config.wordTaken inside io w

/-- The requests raised. -/
def Devices.requests : Devices → List Request
  | .listed panels current => (panelAt panels current).requests
  | .arbitrary inside _ => (Config.requestsRaised inside).map fun r => { maskBit := r.1, passesWhen := r.2 }

/-! ## `Dev`'s operations (R180) -/

/-- `Dev.ocp(dv, F, DEV)`: a control pulse reaches the device. -/
def DeviceEnv.ocp (dv : DeviceEnv) (io : IoAddr) : DeviceEnv :=
  { dv with devices := dv.devices.react (.pulse io), record := .pulse io :: dv.record }

/-- `Dev.sks(dv, F, DEV)`: is the tested line set. -/
def DeviceEnv.sks (dv : DeviceEnv) (io : IoAddr) : Bool := dv.devices.lineSet io

/-- `Dev.ina(dv, F, DEV)`: `some d` is `ready(d)`, `none` is `notready`. -/
def DeviceEnv.ina (dv : DeviceEnv) (io : IoAddr) : DeviceEnv × Option Word :=
  let got := dv.devices.offer io
  ({ dv with devices := dv.devices.react (.input io), record := .input io got :: dv.record }, got)

/-- `Dev.ota(dv, F, DEV, w)`: did the device take w. -/
def DeviceEnv.ota (dv : DeviceEnv) (io : IoAddr) (w : Word) : DeviceEnv × Bool :=
  let taken := dv.devices.takes io w
  ({ dv with devices := dv.devices.react (.output io w), record := .output io w taken :: dv.record }, taken)

/-- `Dev.smk(dv, w)`: `MASK <- w`. -/
def DeviceEnv.smk (dv : DeviceEnv) (w : Word) : DeviceEnv :=
  { mask := w, devices := dv.devices.react (.mask w), record := .mask w :: dv.record }

/-- A request passes its device's mask flip-flop. -/
def Request.passes (mask : Word) (r : Request) : Bool := mask.getMsbD r.maskBit.val == r.passesWhen

/-- `Dev.irq(dv)`, IntRequest: the requests that pass their mask flip-flops, ORed (60_exceptions.md R264; log 9). -/
def DeviceEnv.irq (dv : DeviceEnv) : Bool := dv.devices.requests.any (Request.passes dv.mask)

/-- `Dev.tick(dv)`: the devices move on their own. MASK stays, since SMK alone writes it (10_state.md R22). -/
def DeviceEnv.tick (dv : DeviceEnv) : DeviceEnv := { dv with devices := dv.devices.react .time }

/-! ## The operator -/

/-- The operator's next move, and the operator after it; none if he will make no more. -/
def Operator.next : Operator → Option (OperatorMove × Operator)
  | .listed [] => none
  | .listed (move :: rest) => some (move, .listed rest)
  | .arbitrary who moves =>
    some ({ switches := { sw1 := Config.switchSet who moves 0, sw2 := Config.switchSet who moves 1,
                          sw3 := Config.switchSet who moves 2, sw4 := Config.switchSet who moves 3 },
            start := Config.startPressed who moves },
          .arbitrary who (moves + 1))

end Sys2Proof.Machine
end

