-- ==== Sys2Proof/Machine/Memory.lean ====
section
/-! DEFINITION. Memory as a canonical list of cells: reading and writing one byte cell and one 16-bit word. -/

namespace Sys2Proof.Machine

/-- What a cell that is not listed reads as: zero. DESIGN CHOICE (log 2, unsafe only for `State.reset`): the spec gives memory
no reset contents (10_state.md R26). -/
def Memory.unlisted : Byte := 0

/-- The canonical form: cells strictly rising, no entry equal to what an unlisted cell reads as. -/
abbrev Memory.wf (m : Memory) : Prop :=
  m.Pairwise (fun c d => c.1 < d.1) ∧ ∀ c ∈ m, c.2 ≠ Memory.unlisted

/-- The byte in a cell. -/
def Memory.readByte : Memory → Nat → Byte
  | [], _ => Memory.unlisted
  | (k, u) :: m, cell => if cell < k then Memory.unlisted else if cell = k then u else Memory.readByte m cell

/-- The memory with one byte replaced, in canonical form. -/
def Memory.writeByte : Memory → Nat → Byte → Memory
  | [], cell, v => if v = Memory.unlisted then [] else [(cell, v)]
  | (k, u) :: m, cell, v =>
    if cell < k then if v = Memory.unlisted then (k, u) :: m else (cell, v) :: (k, u) :: m
    else if cell = k then if v = Memory.unlisted then m else (k, v) :: m
    else (k, u) :: Memory.writeByte m cell v

/-- The cell of the left half (bits 1-8) of the word at address y; the right half is in the next cell. -/
def leftCell (y : Addr) : Nat := 2 * y.toNat

/-- Bits 1-8 of a word. -/
def leftHalf (w : Word) : Byte := w.extractLsb' 8 8

/-- Bits 9-16 of a word. -/
def rightHalf (w : Word) : Byte := w.extractLsb' 0 8

/-- M[y] (10_state.md R23). -/
def Memory.readWord (m : Memory) (y : Addr) : Word := m.readByte (leftCell y) ++ m.readByte (leftCell y + 1)

/-- The memory with `M[y] <- v`. -/
def Memory.writeWord (m : Memory) (y : Addr) (v : Word) : Memory :=
  (m.writeByte (leftCell y) (leftHalf v)).writeByte (leftCell y + 1) (rightHalf v)

end Sys2Proof.Machine
end

