-- ==== Sys2Proof/Machine/Ops.lean ====
section
/-! DEFINITION. The operations every meaning is built from: sequencing, register updates, memory access, skips, indirect
addressing, program interrupt entry, and the parts of the instruction cycle (30_encoding.md R61) that `step` calls. -/

namespace Sys2Proof.Machine

/-- What an operation of the model can come to: a value, a fault or a refusal. -/
abbrev Result (α : Type) := Host.Outcome α Fault Refusal

/-- First `r`, then `f` on its value; a fault or a refusal of `r` is the whole's, and leaves nothing written
(60_exceptions.md R261). -/
def andThen {α β : Type} (r : Result α) (f : α → Result β) : Result β :=
  match r with
  | .next v => f v
  | .fault e => .fault e
  | .refused e => .refused e

/-! ## Registers -/

/-- `A <- v`. -/
def State.setA (s : State) (v : Word) : State := { s with a := v }

/-- `B <- v`. -/
def State.setB (s : State) (v : Word) : State := { s with b := v }

/-- `X <- v`. -/
def State.setX (s : State) (v : Word) : State := { s with x := v }

/-- `P <- y`. -/
def State.setP (s : State) (y : Addr) : State := { s with p := y }

/-- `C <- v`. -/
def State.setC (s : State) (v : Bool) : State := { s with c := v }

/-- `C <- c; DP <- dp; EXTMD <- extmd; SC <- sc`. -/
def State.setKeys (s : State) (c dp extmd : Bool) (sc : BitVec 5) : State :=
  { s with c := c, dp := dp, extmd := extmd, sc := sc }

/-- `SC <- draw(5)`: a free value (10_state.md R16; log 5). -/
def State.drawShiftCount (s : State) : State := { s with sc := Config.freeShiftCount s.draws, draws := s.draws + 1 }

/-- One free value more has been drawn. -/
def State.countDraw (s : State) : State := { s with draws := s.draws + 1 }

/-- `PI <- v`. -/
def State.setPI (s : State) (v : Bool) : State := { s with pi := v }

/-- `PIDELAY <- v`. -/
def State.setPIDelay (s : State) (v : Bool) : State := { s with piDelay := v }

/-- `HALT <- v`. -/
def State.setHalt (s : State) (v : Bool) : State := { s with halt := v }

/-- Another memory. -/
def State.setMem (s : State) (m : Memory) : State := { s with mem := m }

/-- `dv <- dv'`. -/
def State.setDev (s : State) (dv : DeviceEnv) : State := { s with dev := dv }

/-- The console's PI indicator: lit exactly when PI = 1 (60_exceptions.md R276). -/
def State.piIndicator (s : State) : Bool := s.pi

/-! ## Memory -/

/-- `MemRead(y, 1)` (20_memory.md R41). Reading '00000 reads memory, never X. -/
def memRead (s : State) (y : Addr) : Result Word :=
  if y.toNat < s.memSize then .next (s.mem.readWord y) else .refused .outsideInstalledMemory

/-- `MemWrite(y, 1, v)`: a store to '00000 also writes X (20_memory.md R42; PRESUMED by the spec, log 16). -/
def memWrite (s : State) (y : Addr) (v : Word) : Result State :=
  if y.toNat < s.memSize then
    let t := s.setMem (s.mem.writeWord y v)
    .next (if y = 0 then t.setX v else t)
  else .refused .outsideInstalledMemory

/-! ## P -/

/-- L, the address of the instruction being executed: P is L + 1 by then (30_encoding.md R61; log 22). -/
def State.here (s : State) : Addr := s.p - 1

/-- `skip(k)` (00_scope.md R4). -/
def State.skip (s : State) (k : Addr) : State := s.setP (s.p + k)

/-- `if cond: skip(1)`. -/
def State.skipIf (s : State) (cond : Bool) : State := if cond then s.skip 1 else s

/-! ## Indirect addressing -/

/-- `if T = 1: Y <- (Y + X[3:16]) mod 2^14` (30_encoding.md R66). -/
def indexIf (s : State) (t : Bool) (y : Addr) : Addr := if t then y + s.x.setWidth 14 else y

/-- The `while I = 1` loop of 30_encoding.md R66, with room for `fuel` address words. Each carries its own I and T. -/
def followIndirect (s : State) : Nat → Bool → Addr → Result Addr
  | _, false, y => .next y
  | 0, true, _ => .fault .endlessIndirect
  | fuel + 1, true, y =>
    andThen (memRead s y) fun w => followIndirect s fuel (bit1 w) (indexIf s (bit2 w) (addressField w))

/-- 2^14: memory and X do not change during a chain, so one that has fetched this many address words and still goes on has
come back to an address and never ends (log 11). -/
def chainFuel : Nat := 16384

/-! ## Linkage and the program interrupt -/

/-- What JST and interrupt entry share: P goes to bits 3-16 of the word at y, whose bits 1-2 stay, and control to y + 1
(45_control.md R206, 60_exceptions.md R268). -/
def storeLink (s : State) (y : Addr) : Result State :=
  andThen (memRead s y) fun w =>
  andThen (memWrite s y (w.extractLsb' 14 2 ++ s.p)) fun t =>
  .next (t.setP (y + 1))

/-- INT_VECTOR (20_memory.md R51; PRESUMED by the spec, log 18). -/
def intVector : Addr := 0o00063

/-- A program interrupt is recognised at this boundary (60_exceptions.md R265). -/
def interruptRecognised (s : State) : Bool := !s.halt && s.pi && !s.piDelay && s.dev.irq

/-- Program interrupt entry: a forced `JST* '00063`, P not advanced, PI and PIDELAY cleared, nothing else saved or changed
(60_exceptions.md R268). DP = 1 does not block it. There is no operation for the return: it is ENB and then `JMP*` through the
link word (R269). -/
def interruptEntry (s : State) : Result State :=
  if s.extmd then .refused .extmdSet
  else
    andThen (followIndirect s chainFuel true intVector) fun y =>
    andThen (storeLink s y) fun t =>
    .next ((t.setPI false).setPIDelay false)

/-! ## The instruction cycle -/

/-- The surroundings move, before every step: the devices (`Dev.tick`, 44_input_output.md R180), and the operator, if he will
still move. START clears HALT and does nothing else (60_exceptions.md R275); that it does nothing on a running machine is a
DESIGN CHOICE (log 10, unsafe). -/
def tick (s : State) : State :=
  match s.operator.next with
  | none => { s with dev := s.dev.tick }
  | some (move, op) =>
    { s with switches := move.switches, halt := s.halt && !move.start, operator := op, dev := s.dev.tick }

/-- HALT = 1: the processor has no step, only the surroundings move; with an operator who will make no move the state is final
(70_reset_and_hazards.md R303; log 10). -/
def idle (s : State) : Result State :=
  match s.operator.next with
  | none => .fault .halted
  | some _ => .next (tick s)

/-- `IR <- MemRead(L, 1)` and `decode(IR)`, refused if the word is undefined (30_encoding.md R61, R75). -/
def fetchDecode (s : State) : Result Instr :=
  andThen (memRead s s.p) fun ir =>
  match decode ir with
  | .ok i => .next i
  | .error why => .refused (.undefinedWord why)

/-- `P <- (L + 1) mod 2^14`, before the instruction executes (30_encoding.md R61). -/
def advance (s : State) : State := s.setP (s.p + 1)

/-- `if i is not ENB: PIDELAY <- 0`, at the completion of i (60_exceptions.md R266). -/
def complete (i : Instr) (t : State) : State := if i = .enb then t else t.setPIDelay false

end Sys2Proof.Machine
end

