-- ==== Sys2Proof/Machine/Flags.lean ====
section
/-! DEFINITION. The C bit's computations and the arithmetic they go with (41_arithmetic.md R120): the true integer result, its
16-bit remainder, and whether it fits. -/

namespace Sys2Proof.Machine

/-- "Overflow status": the true result lies outside -32768..32767 (41_arithmetic.md R120; the spec's reading, log 17). -/
def overflows (r : Int) : Bool := decide (r < -32768 ∨ 32767 < r)

/-- `A <- r mod 2^16; C <- overflow status` (41_arithmetic.md R120 to R124). -/
def State.setArith (s : State) (r : Int) : State := (s.setA (BitVec.ofInt 16 r)).setC (overflows r)

/-- C as a number, as ACA adds it (41_arithmetic.md R121). -/
def carryIn (c : Bool) : Int := if c then 1 else 0

end Sys2Proof.Machine
end

