-- ==== Sys2Proof/Machine/Operands.lean ====
section
/-! DEFINITION. The operand forms: the effective address of an MR-type instruction (30_encoding.md R66, R68), with the check
that DP and EXTMD are 0 (R78), and the keys word (10_state.md R15). -/

namespace Sys2Proof.Machine

/-- The refusals of 30_encoding.md R78, made before any MR-type instruction (log 12). -/
def keysAllowMemRef (s : State) : Result Unit :=
  if s.dp then .refused .dpModeSet else if s.extmd then .refused .extmdSet else .next ()

/-- Sector 0 or the 512-word sector of the instruction's own location L, and D in it (30_encoding.md R66). -/
def sectorAddress (s : State) (ownSector : Bool) (disp : BitVec 9) : Addr :=
  if ownSector then s.here.extractLsb' 9 5 ++ disp else 0#5 ++ disp

/-- `EA(IR, L)`: sector, then indexing, then the indirect chain (30_encoding.md R66). -/
def effectiveAddress (s : State) (m : MemRef) : Result Addr :=
  followIndirect s chainFuel m.indirect (indexIf s m.indexed (sectorAddress s m.ownSector m.disp))

/-- LDX and STX: the instruction's own T is 0 (30_encoding.md R68). -/
def unindexed (m : PlainRef) : MemRef := ⟨m.indirect, false, m.ownSector, m.disp⟩

/-- The checks, then EA. -/
def operandAddress (s : State) (m : MemRef) : Result Addr :=
  andThen (keysAllowMemRef s) fun _ => effectiveAddress s m

/-- The checks, EA, then `MemRead(EA, 1)`. -/
def operandWord (s : State) (m : MemRef) : Result Word :=
  andThen (operandAddress s m) fun y => memRead s y

/-- The keys word as INK assembles it (10_state.md R15, 40_load_store.md R103). -/
def keysWord (s : State) : Word :=
  BitVec.ofBool s.c ++ BitVec.ofBool s.dp ++ BitVec.ofBool s.extmd ++ 0#8 ++ s.sc

/-- The keys taken apart as OTK does; bits 4-11 are ignored (10_state.md R15, 40_load_store.md R106). -/
def State.setKeysWord (s : State) (w : Word) : State := s.setKeys (bit1 w) (bit2 w) (bit3 w) (w.extractLsb' 0 5)

end Sys2Proof.Machine
end

