-- ==== Sys2Proof/Machine/Arithmetic.lean ====
section
/-! DEFINITION. The arithmetic instructions (41_arithmetic.md R121 to R125). -/

namespace Sys2Proof.Machine

/-- ACA, R121. -/
def execAca (s : State) : Result State := .next (s.setArith (s.a.toInt + carryIn s.c))

/-- ADD, R122. -/
def execAdd (m : MemRef) (s : State) : Result State :=
  andThen (operandWord s m) fun w => .next (s.setArith (s.a.toInt + w.toInt))

/-- AOA, R123. -/
def execAoa (s : State) : Result State := .next (s.setArith (s.a.toInt + 1))

/-- SUB, R124: the memory operand is the subtrahend. -/
def execSub (m : MemRef) (s : State) : Result State :=
  andThen (operandWord s m) fun w => .next (s.setArith (s.a.toInt - w.toInt))

/-- TCA, R125: C is unchanged; SC is left free. -/
def execTca (s : State) : Result State := .next (s.setA (-s.a)).drawShiftCount

end Sys2Proof.Machine
end

