-- ==== Sys2Proof/Machine/Control.lean ====
section
/-! DEFINITION. The control instructions (45_control.md R200 to R229). -/

namespace Sys2Proof.Machine

/-- How far CAS skips: signed comparison over the full range (R200). -/
def compareSkip (a m : Word) : Addr :=
  if m.toInt < a.toInt then 0 else if a.toInt = m.toInt then 1 else 2

/-- CAS, R200. -/
def execCas (m : MemRef) (s : State) : Result State :=
  andThen (operandWord s m) fun w => .next (s.skip (compareSkip s.a w))

/-- ENB, R201. -/
def execEnb (s : State) : Result State := .next ((s.setPI true).setPIDelay true)

/-- HLT, R202. -/
def execHlt (s : State) : Result State := .next (s.setHalt true)

/-- INH, R203. -/
def execInh (s : State) : Result State := .next (s.setPI false)

/-- IRS, R204: the value tested is the one stored. -/
def execIrs (m : MemRef) (s : State) : Result State :=
  andThen (operandAddress s m) fun y =>
  andThen (memRead s y) fun w =>
  andThen (memWrite s y (w + 1)) fun t =>
  .next (t.skipIf (w + 1 == 0))

/-- JMP, R205: the address itself goes to P; the word at EA is not read. -/
def execJmp (m : MemRef) (s : State) : Result State :=
  andThen (operandAddress s m) fun y => .next (s.setP y)

/-- JST, R206. -/
def execJst (m : MemRef) (s : State) : Result State :=
  andThen (operandAddress s m) fun y => storeLink s y

/-- NOP, R207. -/
def execNop (s : State) : Result State := .next s

/-- RCB, R209. -/
def execRcb (s : State) : Result State := .next (s.setC false)

/-- SCB, R210. -/
def execScb (s : State) : Result State := .next (s.setC true)

/-- SKP, R211. -/
def execSkp (s : State) : Result State := .next (s.skip 1)

/-- SLN, R212. -/
def execSln (s : State) : Result State := .next (s.skipIf (bit16 s.a))

/-- SLZ, R213. -/
def execSlz (s : State) : Result State := .next (s.skipIf (!bit16 s.a))

/-- SMI, R214. -/
def execSmi (s : State) : Result State := .next (s.skipIf (bit1 s.a))

/-- SNZ, R215. -/
def execSnz (s : State) : Result State := .next (s.skipIf (s.a != 0))

/-- SPL, R216. -/
def execSpl (s : State) : Result State := .next (s.skipIf (!bit1 s.a))

/-- SR1, R217. -/
def execSr1 (s : State) : Result State := .next (s.skipIf (!s.switches.sw1))

/-- SR2, R218. -/
def execSr2 (s : State) : Result State := .next (s.skipIf (!s.switches.sw2))

/-- SR3, R219. -/
def execSr3 (s : State) : Result State := .next (s.skipIf (!s.switches.sw3))

/-- SR4, R220: switch 4 (90_conflicts.md C3). -/
def execSr4 (s : State) : Result State := .next (s.skipIf (!s.switches.sw4))

/-- SRC, R221. -/
def execSrc (s : State) : Result State := .next (s.skipIf (!s.c))

/-- SS1, R222. -/
def execSs1 (s : State) : Result State := .next (s.skipIf s.switches.sw1)

/-- SS2, R223. -/
def execSs2 (s : State) : Result State := .next (s.skipIf s.switches.sw2)

/-- SS3, R224. -/
def execSs3 (s : State) : Result State := .next (s.skipIf s.switches.sw3)

/-- SS4, R225: switch 4 (90_conflicts.md C3). -/
def execSs4 (s : State) : Result State := .next (s.skipIf s.switches.sw4)

/-- SSC, R226. -/
def execSsc (s : State) : Result State := .next (s.skipIf s.c)

/-- Some sense switch is ON. -/
def SenseSwitches.anyOn (w : SenseSwitches) : Bool := w.sw1 || w.sw2 || w.sw3 || w.sw4

/-- SSR, R227. -/
def execSsr (s : State) : Result State := .next (s.skipIf (!s.switches.anyOn))

/-- SSS, R228. -/
def execSss (s : State) : Result State := .next (s.skipIf s.switches.anyOn)

/-- SZE, R229. -/
def execSze (s : State) : Result State := .next (s.skipIf (s.a == 0))

end Sys2Proof.Machine
end

