-- ==== Sys2Proof/Machine/HalfWord.lean ====
section
/-! DEFINITION. The half-word instructions (46_half_word.md R250 to R254): the left half of A is bits 1-8, the right half bits
9-16. -/

namespace Sys2Proof.Machine

/-- CAL, R250. -/
def execCal (s : State) : Result State := .next (s.setA (0#8 ++ rightHalf s.a))

/-- CAR, R251. -/
def execCar (s : State) : Result State := .next (s.setA (leftHalf s.a ++ 0#8))

/-- ICA, R252. -/
def execIca (s : State) : Result State := .next (s.setA (rightHalf s.a ++ leftHalf s.a))

/-- ICL, R253. -/
def execIcl (s : State) : Result State := .next (s.setA (0#8 ++ leftHalf s.a))

/-- ICR, R254. -/
def execIcr (s : State) : Result State := .next (s.setA (rightHalf s.a ++ 0#8))

end Sys2Proof.Machine
end

