-- ==== Sys2Proof/Machine/InputOutput.lean ====
section
/-! DEFINITION. The input-output instructions (44_input_output.md R181 to R185), over the device environment's operations (R180).
Their meanings are the spec's from general knowledge (PRESUMED, log 19). -/

namespace Sys2Proof.Machine

/-- IR[7] of an IO word: the top bit of F. -/
def clearsFirst (io : IoAddr) : Bool := io.function.getLsbD 3

/-- INA, R181. With IR[7] = 1 and the device not ready, A stays or becomes 0: a free value (log 6). -/
def execIna (io : IoAddr) (s : State) : Result State :=
  match s.dev.ina io with
  | (dv, some d) => .next (((s.setDev dv).setA (if clearsFirst io then d else s.a ||| d)).skip 1)
  | (dv, none) =>
    .next (if clearsFirst io then
        ((s.setDev dv).setA (if Config.freeClearsWhenNotReady s.draws then 0 else s.a)).countDraw
      else s.setDev dv)

/-- OCP, R182. -/
def execOcp (io : IoAddr) (s : State) : Result State := .next (s.setDev (s.dev.ocp io))

/-- OTA, R183. -/
def execOta (io : IoAddr) (s : State) : Result State :=
  let r := s.dev.ota io s.a
  .next ((s.setDev r.1).skipIf r.2)

/-- SMK, R184: never skips. -/
def execSmk (s : State) : Result State := .next (s.setDev (s.dev.smk s.a))

/-- SKS, R185. -/
def execSks (io : IoAddr) (s : State) : Result State := .next (s.skipIf (s.dev.sks io))

end Sys2Proof.Machine
end

