-- ==== Sys2Proof/Machine/LoadStore.lean ====
section
/-! DEFINITION. The load and store instructions (40_load_store.md R100 to R108). -/

namespace Sys2Proof.Machine

/-- CRA, R100. -/
def execCra (s : State) : Result State := .next (s.setA 0)

/-- IAB, R101. -/
def execIab (s : State) : Result State := .next ((s.setA s.b).setB s.a)

/-- IMA, R102. -/
def execIma (m : MemRef) (s : State) : Result State :=
  andThen (operandAddress s m) fun y =>
  andThen (memRead s y) fun w =>
  andThen (memWrite s y s.a) fun t =>
  .next (t.setA w)

/-- INK, R103. -/
def execInk (s : State) : Result State := .next (s.setA (keysWord s))

/-- LDA, R104. -/
def execLda (m : MemRef) (s : State) : Result State :=
  andThen (operandWord s m) fun w => .next (s.setA w)

/-- LDX, R105: an indirect chain indexes with the old X. -/
def execLdx (m : PlainRef) (s : State) : Result State :=
  andThen (operandWord s (unindexed m)) fun w => memWrite (s.setX w) 0 w

/-- OTK, R106. -/
def execOtk (s : State) : Result State := .next (s.setKeysWord s.a)

/-- STA, R107. -/
def execSta (m : MemRef) (s : State) : Result State :=
  andThen (operandAddress s m) fun y => memWrite s y s.a

/-- STX, R108: stores the register X, not M['00000]. -/
def execStx (m : PlainRef) (s : State) : Result State :=
  andThen (operandAddress s (unindexed m)) fun y => memWrite s y s.x

end Sys2Proof.Machine
end

