-- ==== Sys2Proof/Machine/Logical.lean ====
section
/-! DEFINITION. The logical instructions (42_logical.md R135 to R142). -/

namespace Sys2Proof.Machine

/-- ANA, R136. -/
def execAna (m : MemRef) (s : State) : Result State :=
  andThen (operandWord s m) fun w => .next (s.setA (s.a &&& w))

/-- CSA, R137: C gets the old sign. -/
def execCsa (s : State) : Result State := .next ((s.setC (bit1 s.a)).setA (s.a &&& 0o077777))

/-- CHS, R138. -/
def execChs (s : State) : Result State := .next (s.setA (s.a ^^^ 0o100000))

/-- CMA, R139. -/
def execCma (s : State) : Result State := .next (s.setA (s.a ^^^ 0o177777))

/-- ERA, R140: exclusive OR. -/
def execEra (m : MemRef) (s : State) : Result State :=
  andThen (operandWord s m) fun w => .next (s.setA (s.a ^^^ w))

/-- SSM, R141. -/
def execSsm (s : State) : Result State := .next (s.setA (s.a ||| 0o100000))

/-- SSP, R142. -/
def execSsp (s : State) : Result State := .next (s.setA (s.a &&& 0o077777))

end Sys2Proof.Machine
end

