-- ==== Sys2Proof/Machine/Shift.lean ====
section
/-! DEFINITION. The shift instructions (43_shift.md R150 to R163): C is cleared, n single-position steps are made, SC is left
free. n = 0 only clears C. -/

namespace Sys2Proof.Machine

/-- What a shift works on. -/
structure ShiftRegs where
  a : Word
  b : Word
  c : Bool
  deriving DecidableEq, Repr

/-- `n` times `f`. -/
def repeatStep (f : ShiftRegs → ShiftRegs) : Nat → ShiftRegs → ShiftRegs
  | 0, r => r
  | n + 1, r => repeatStep f n (f r)

/-! ## The single-position steps (R151) -/

/-- D = A ++ B, 32 bits. -/
def ShiftRegs.d (r : ShiftRegs) : BitVec 32 := r.a ++ r.b

/-- E = A ++ B[2:16], 31 bits, B1 standing outside. -/
def ShiftRegs.e (r : ShiftRegs) : BitVec 31 := r.a ++ r.b.extractLsb' 0 15

/-- `A <- D[1:16]; B <- D[17:32]`. -/
def ShiftRegs.setD (r : ShiftRegs) (d : BitVec 32) : ShiftRegs := { r with a := d.extractLsb' 16 16, b := d.extractLsb' 0 16 }

/-- `A <- E[1:16]; B <- B[1] ++ E[17:31]`. -/
def ShiftRegs.setE (r : ShiftRegs) (e : BitVec 31) : ShiftRegs :=
  { r with a := e.extractLsb' 15 16, b := r.b.extractLsb' 15 1 ++ e.extractLsb' 0 15 }

/-- `C <- v`. -/
def ShiftRegs.setC (r : ShiftRegs) (v : Bool) : ShiftRegs := { r with c := v }

/-- `if A[1] != s then C <- 1`, s the sign of A before the step: C is never reset by a step. -/
def ShiftRegs.noteSignChange (before after : ShiftRegs) : ShiftRegs :=
  if bit1 after.a = bit1 before.a then after else after.setC true

/-- rotate-left-16 (ALR). -/
def rotateLeft16 (r : ShiftRegs) : ShiftRegs :=
  { r with a := r.a.extractLsb' 0 15 ++ r.a.extractLsb' 15 1, c := bit1 r.a }

/-- arith-left-16 (ALS). -/
def arithLeft16 (r : ShiftRegs) : ShiftRegs := r.noteSignChange { r with a := r.a.extractLsb' 0 15 ++ 0#1 }

/-- rotate-right-16 (ARR). -/
def rotateRight16 (r : ShiftRegs) : ShiftRegs :=
  { r with a := r.a.extractLsb' 0 1 ++ r.a.extractLsb' 1 15, c := bit16 r.a }

/-- arith-right-16 (ARS). -/
def arithRight16 (r : ShiftRegs) : ShiftRegs :=
  { r with a := r.a.extractLsb' 15 1 ++ r.a.extractLsb' 1 15, c := bit16 r.a }

/-- logical-left-16 (LGL). -/
def logicalLeft16 (r : ShiftRegs) : ShiftRegs := { r with a := r.a.extractLsb' 0 15 ++ 0#1, c := bit1 r.a }

/-- logical-right-16 (LGR). -/
def logicalRight16 (r : ShiftRegs) : ShiftRegs := { r with a := 0#1 ++ r.a.extractLsb' 1 15, c := bit16 r.a }

/-- logical-left-32 (LLL). -/
def logicalLeft32 (r : ShiftRegs) : ShiftRegs := (r.setD (r.d.extractLsb' 0 31 ++ 0#1)).setC (r.d.getLsbD 31)

/-- rotate-left-32 (LLR). -/
def rotateLeft32 (r : ShiftRegs) : ShiftRegs :=
  (r.setD (r.d.extractLsb' 0 31 ++ r.d.extractLsb' 31 1)).setC (r.d.getLsbD 31)

/-- arith-left-31 (LLS): the sign E1 is A1. -/
def arithLeft31 (r : ShiftRegs) : ShiftRegs := r.noteSignChange (r.setE (r.e.extractLsb' 0 30 ++ 0#1))

/-- logical-right-32 (LRL). -/
def logicalRight32 (r : ShiftRegs) : ShiftRegs := (r.setD (0#1 ++ r.d.extractLsb' 1 31)).setC (r.d.getLsbD 0)

/-- rotate-right-32 (LRR). -/
def rotateRight32 (r : ShiftRegs) : ShiftRegs :=
  (r.setD (r.d.extractLsb' 0 1 ++ r.d.extractLsb' 1 31)).setC (r.d.getLsbD 0)

/-- arith-right-31 (LRS). -/
def arithRight31 (r : ShiftRegs) : ShiftRegs :=
  (r.setE (r.e.extractLsb' 30 1 ++ r.e.extractLsb' 1 30)).setC (r.e.getLsbD 0)

/-! ## The instructions -/

/-- A, B and C after clearing C and n steps (R150). -/
def shifted (f : ShiftRegs → ShiftRegs) (n : BitVec 6) (s : State) : ShiftRegs :=
  repeatStep f n.toNat { a := s.a, b := s.b, c := false }

/-- What every SH-type instruction does (R150). -/
def shiftBy (f : ShiftRegs → ShiftRegs) (n : BitVec 6) (s : State) : State :=
  let r := shifted f n s
  (((s.setA r.a).setB r.b).setC r.c).drawShiftCount

/-- LRL, R161. -/
def execLrl (n : BitVec 6) (s : State) : Result State := .next (shiftBy logicalRight32 n s)

/-- LRS, R163. -/
def execLrs (n : BitVec 6) (s : State) : Result State := .next (shiftBy arithRight31 n s)

/-- LRR, R162. -/
def execLrr (n : BitVec 6) (s : State) : Result State := .next (shiftBy rotateRight32 n s)

/-- LGR, R157. -/
def execLgr (n : BitVec 6) (s : State) : Result State := .next (shiftBy logicalRight16 n s)

/-- ARS, R155. -/
def execArs (n : BitVec 6) (s : State) : Result State := .next (shiftBy arithRight16 n s)

/-- ARR, R154. -/
def execArr (n : BitVec 6) (s : State) : Result State := .next (shiftBy rotateRight16 n s)

/-- LLL, R158. -/
def execLll (n : BitVec 6) (s : State) : Result State := .next (shiftBy logicalLeft32 n s)

/-- LLS, R160. -/
def execLls (n : BitVec 6) (s : State) : Result State := .next (shiftBy arithLeft31 n s)

/-- LLR, R159. -/
def execLlr (n : BitVec 6) (s : State) : Result State := .next (shiftBy rotateLeft32 n s)

/-- LGL, R156. -/
def execLgl (n : BitVec 6) (s : State) : Result State := .next (shiftBy logicalLeft16 n s)

/-- ALS, R153. -/
def execAls (n : BitVec 6) (s : State) : Result State := .next (shiftBy arithLeft16 n s)

/-- ALR, R152. -/
def execAlr (n : BitVec 6) (s : State) : Result State := .next (shiftBy rotateLeft16 n s)

end Sys2Proof.Machine
end

