-- ==== Sys2Proof/Machine/Dispatch.lean ====
section
/-! DEFINITION. Which meaning each instruction has: one arm per row of spec/opcode_table.json, in the table's order. P is already
the address after the instruction (30_encoding.md R61). -/

namespace Sys2Proof.Machine

def exec (i : Instr) (s : State) : Host.Outcome State Fault Refusal :=
  match i with
  | .hlt => Sys2Proof.Machine.execHlt s
  | .ink => Sys2Proof.Machine.execInk s
  | .iab => Sys2Proof.Machine.execIab s
  | .enb => Sys2Proof.Machine.execEnb s
  | .inh => Sys2Proof.Machine.execInh s
  | .skp => Sys2Proof.Machine.execSkp s
  | .src => Sys2Proof.Machine.execSrc s
  | .sr4 => Sys2Proof.Machine.execSr4 s
  | .sr3 => Sys2Proof.Machine.execSr3 s
  | .sr2 => Sys2Proof.Machine.execSr2 s
  | .sr1 => Sys2Proof.Machine.execSr1 s
  | .ssr => Sys2Proof.Machine.execSsr s
  | .sze => Sys2Proof.Machine.execSze s
  | .slz => Sys2Proof.Machine.execSlz s
  | .spl => Sys2Proof.Machine.execSpl s
  | .nop => Sys2Proof.Machine.execNop s
  | .ssc => Sys2Proof.Machine.execSsc s
  | .ss4 => Sys2Proof.Machine.execSs4 s
  | .ss3 => Sys2Proof.Machine.execSs3 s
  | .ss2 => Sys2Proof.Machine.execSs2 s
  | .ss1 => Sys2Proof.Machine.execSs1 s
  | .sss => Sys2Proof.Machine.execSss s
  | .snz => Sys2Proof.Machine.execSnz s
  | .sln => Sys2Proof.Machine.execSln s
  | .smi => Sys2Proof.Machine.execSmi s
  | .chs => Sys2Proof.Machine.execChs s
  | .cra => Sys2Proof.Machine.execCra s
  | .ssp => Sys2Proof.Machine.execSsp s
  | .rcb => Sys2Proof.Machine.execRcb s
  | .csa => Sys2Proof.Machine.execCsa s
  | .cma => Sys2Proof.Machine.execCma s
  | .ssm => Sys2Proof.Machine.execSsm s
  | .scb => Sys2Proof.Machine.execScb s
  | .car => Sys2Proof.Machine.execCar s
  | .cal => Sys2Proof.Machine.execCal s
  | .icl => Sys2Proof.Machine.execIcl s
  | .aoa => Sys2Proof.Machine.execAoa s
  | .aca => Sys2Proof.Machine.execAca s
  | .icr => Sys2Proof.Machine.execIcr s
  | .ica => Sys2Proof.Machine.execIca s
  | .tca => Sys2Proof.Machine.execTca s
  | .otk => Sys2Proof.Machine.execOtk s
  | .jmp m => Sys2Proof.Machine.execJmp m s
  | .lda m => Sys2Proof.Machine.execLda m s
  | .ana m => Sys2Proof.Machine.execAna m s
  | .sta m => Sys2Proof.Machine.execSta m s
  | .era m => Sys2Proof.Machine.execEra m s
  | .add m => Sys2Proof.Machine.execAdd m s
  | .sub m => Sys2Proof.Machine.execSub m s
  | .jst m => Sys2Proof.Machine.execJst m s
  | .cas m => Sys2Proof.Machine.execCas m s
  | .irs m => Sys2Proof.Machine.execIrs m s
  | .ima m => Sys2Proof.Machine.execIma m s
  | .stx m => Sys2Proof.Machine.execStx m s
  | .ldx m => Sys2Proof.Machine.execLdx m s
  | .lrl n => Sys2Proof.Machine.execLrl n s
  | .lrs n => Sys2Proof.Machine.execLrs n s
  | .lrr n => Sys2Proof.Machine.execLrr n s
  | .lgr n => Sys2Proof.Machine.execLgr n s
  | .ars n => Sys2Proof.Machine.execArs n s
  | .arr n => Sys2Proof.Machine.execArr n s
  | .lll n => Sys2Proof.Machine.execLll n s
  | .lls n => Sys2Proof.Machine.execLls n s
  | .llr n => Sys2Proof.Machine.execLlr n s
  | .lgl n => Sys2Proof.Machine.execLgl n s
  | .als n => Sys2Proof.Machine.execAls n s
  | .alr n => Sys2Proof.Machine.execAlr n s
  | .ocp io => Sys2Proof.Machine.execOcp io s
  | .sks io => Sys2Proof.Machine.execSks io s
  | .ina io => Sys2Proof.Machine.execIna io s
  | .ota io => Sys2Proof.Machine.execOta io s
  | .smk => Sys2Proof.Machine.execSmk s

end Sys2Proof.Machine
end

