-- ==== Sys2Proof/Machine/Step.lean ====
section
/-! DEFINITION. One step (30_encoding.md R61), and placing an instruction where the next step fetches. -/

namespace Sys2Proof.Machine

/-- One step. Halted: only the surroundings move. Else the surroundings make their move (`Dev.tick`, R180), and then the
processor either enters the program interrupt or fetches, advances P, executes and completes one instruction (R61). -/
def step (s : State) : Host.Outcome State Fault Refusal :=
  if s.halt then idle s
  else if interruptRecognised (tick s) then interruptEntry (tick s)
  else
    andThen (fetchDecode (tick s)) fun i =>
    andThen (exec i (advance (tick s))) fun t =>
    .next (complete i t)

/-- s with the instruction word w at the address P the next step fetches from: the machine is launched with it in memory
(60_exceptions.md R275; log 14). Nothing else changes, X neither: this is no MemWrite of the processor's. -/
def State.withFetchWord (s : State) (nbits w : Nat) : State :=
  { s with mem := s.mem.writeWord s.p (BitVec.ofNat 16 (w % 2 ^ nbits)) }

end Sys2Proof.Machine
end

