-- ==== Sys2Proof/Machine/Timing.lean ====
section
/-! DEFINITION. The source's cycle and time columns (70_reset_and_hazards.md R320). Documentation of speed: no rule and no step
depends on them (log 21). The figures of MR-type instructions are those of the direct form. -/

namespace Sys2Proof.Machine

/-- "No. of Cycles", in half cycles; the source leaves HLT blank. -/
def halfCycles : Instr → Option Nat
  | .hlt => none
  | .ink | .iab | .enb | .inh | .skp | .src | .sr4 | .sr3 | .sr2 | .sr1 | .ssr | .sze | .slz | .spl | .nop | .ssc | .ss4
  | .ss3 | .ss2 | .ss1 | .sss | .snz | .sln | .smi | .chs | .cra | .ssp | .rcb | .csa | .cma | .ssm | .scb | .car | .cal
  | .icl | .aoa | .aca | .icr | .ica | .jmp _ => some 2
  | .tca => some 3
  | .otk | .lda _ | .ana _ | .sta _ | .era _ | .add _ | .sub _ | .stx _ | .ocp _ | .sks _ | .ina _ | .ota _ | .smk => some 4
  | .jst _ | .cas _ | .irs _ | .ima _ | .ldx _ => some 6
  | .lrl n | .lrs n | .lrr n | .lgr n | .ars n | .arr n | .lll n | .lls n | .llr n | .lgl n | .als n | .alr n =>
    some (2 + n.toNat)

/-- "Time", in hundredths of a microsecond: 0.96 microseconds a cycle. -/
def timeHundredths (i : Instr) : Option Nat := (halfCycles i).map (48 * ·)

end Sys2Proof.Machine
end

