-- ==== Sys2Proof/Safety.lean ====
section
/-! DEFINITION. What counts as a well-formed state and as a safe run, in the terms claims use. -/

namespace Sys2Proof.Machine

/-- The state holds a memory of the machine: canonical, MEMSIZE in its range (00_scope.md R9), and nothing listed beyond
installed memory (20_memory.md R40). -/
structure State.Inv (s : State) : Prop where
  /-- Memory is in its canonical form. -/
  mem_wf : s.mem.wf
  /-- 64 <= MEMSIZE. -/
  min_size : Config.minMemSize ≤ s.memSize
  /-- MEMSIZE <= 16384. -/
  max_size : s.memSize ≤ Config.maxMemSize
  /-- No cell outside installed memory is listed. -/
  installed : ∀ c ∈ s.mem, c.1 < 2 * s.memSize

/-- X and M['00000] are equal (10_state.md R12). -/
def State.Mirrored (s : State) : Prop := s.x = s.mem.readWord 0

/-- The launch premises every example of the spec uses (10_state.md R26, 70_reset_and_hazards.md R300). -/
def State.LaunchReady (s : State) : Prop :=
  s.dp = false ∧ s.extmd = false ∧ s.halt = false ∧ s.piDelay = false

/-- t is a next state of s after k steps. -/
def runsTo (s : State) : Nat → State → Prop
  | 0, t => s = t
  | k + 1, t => ∃ u, step s = .next u ∧ runsTo u k t

/-- No refusal is reachable from s: what a claim about a program must show (60_exceptions.md R261). -/
def NoRefusal (s : State) : Prop := ∀ k t why, runsTo s k t → step t ≠ .refused why

/-- The indirect chain from (I, Y) ends at z, without a bound on its length: the `while` loop of 30_encoding.md R66 as it stands. -/
inductive ChainEnds (s : State) : Bool → Addr → Addr → Prop where
  /-- I = 0: the address is found. -/
  | found (y : Addr) : ChainEnds s false y y
  /-- I = 1: one address word more. -/
  | hop (y z : Addr) (installed : y.toNat < s.memSize)
      (rest : ChainEnds s (bit1 (s.mem.readWord y))
        (indexIf s (bit2 (s.mem.readWord y)) (addressField (s.mem.readWord y))) z) : ChainEnds s true y z

/-- The indirect chain from (I, Y) comes to an address word outside installed memory (20_memory.md R41, 30_encoding.md R66
point (d)). -/
inductive ChainLeaves (s : State) : Bool → Addr → Prop where
  /-- The next address word is outside. -/
  | outside (y : Addr) (missing : ¬ y.toNat < s.memSize) : ChainLeaves s true y
  /-- The next address word is installed, and the chain leaves memory after it. -/
  | hop (y : Addr) (installed : y.toNat < s.memSize)
      (rest : ChainLeaves s (bit1 (s.mem.readWord y))
        (indexIf s (bit2 (s.mem.readWord y)) (addressField (s.mem.readWord y)))) : ChainLeaves s true y

/-- After k more address words the chain from (I, Y) has stayed in installed memory and still calls for another. -/
def chainGoesOn (s : State) : Nat → Bool → Addr → Prop
  | _, false, _ => False
  | 0, true, _ => True
  | k + 1, true, y => y.toNat < s.memSize ∧
      chainGoesOn s k (bit1 (s.mem.readWord y)) (indexIf s (bit2 (s.mem.readWord y)) (addressField (s.mem.readWord y)))

/-- The memory operand of an MR-type instruction, LDX and STX with T = 0 (30_encoding.md R68, R71); none for the others. -/
def memRefOf : Instr → Option MemRef
  | .jmp m | .lda m | .ana m | .sta m | .era m | .add m | .sub m | .jst m | .cas m | .irs m | .ima m => some m
  | .stx m | .ldx m => some (unindexed m)
  | _ => none

/-- DP = 0, EXTMD = 0, and the operand m addresses the installed word at y: what an MR-type instruction needs to execute
(30_encoding.md R66, R78, 20_memory.md R41). -/
def Addresses (s : State) (m : MemRef) (y : Addr) : Prop :=
  s.dp = false ∧ s.extmd = false ∧ effectiveAddress s m = .next y ∧ y.toNat < s.memSize

/-- Every byte of memory but the two of the word at y reads the same in s and t. -/
def sameBytesOutside (y : Addr) (s t : State) : Prop :=
  ∀ cell, cell ≠ leftCell y → cell ≠ leftCell y + 1 → t.mem.readByte cell = s.mem.readByte cell

/-- t is s after `MemWrite(y, 1, v)`, as far as memory and X go: the word at y is v, no other byte of
memory has changed, and X has become v if y is '00000 (20_memory.md R42). -/
def Stored (s t : State) (y : Addr) (v : Word) : Prop :=
  t.mem.readWord y = v ∧ sameBytesOutside y s t ∧ t.x = if y = 0 then v else s.x

/-- What a rule's encoding and timing lines say of a word and its instruction: the word decodes to i, and i takes so many half
cycles of 0.48 microseconds (70_reset_and_hazards.md R320). -/
def IsRow (w : Word) (i : Instr) (half : Option Nat) : Prop :=
  decode w = .ok i ∧ halfCycles i = half ∧ timeHundredths i = half.map (48 * ·)

end Sys2Proof.Machine
end

