-- ==== Sys2Proof/Certificates/Slice0/Obligations.lean ====
section
/-! DEFINITION. The statements for the provers. P in the state `exec` starts from is L + 1, as in the pseudocode of the spec's
rules (30_encoding.md R61); a record update `{ s with … }` says that every field it does not name, memory included, is
unchanged (00_scope.md R5). -/

namespace Sys2Proof.Machine

/-! ## Terms used below -/

/-- How many one-bits a mask has. -/
def onesIn (w : Word) : Nat := ((List.range 16).filter fun k => w.getLsbD k).length

/-- `I*'100000 + T*'040000 + OP*'002000 + S*'001000 + D` (30_encoding.md R64), as a number. -/
def memRefNumber (op : Nat) (m : MemRef) : Word :=
  BitVec.ofNat 16
    (m.indirect.toNat * 0o100000 + m.indexed.toNat * 0o040000 + op * 0o002000 + m.ownSector.toNat * 0o001000 + m.disp.toNat)

/-- The same for LDX and STX: no T, the base word holds it (30_encoding.md R71). -/
def plainRefNumber (base : Nat) (m : PlainRef) : Word :=
  BitVec.ofNat 16 (m.indirect.toNat * 0o100000 + base + m.ownSector.toNat * 0o001000 + m.disp.toNat)

/-- `OP10*'100 + K`, `K = (64 - n) mod 64` (30_encoding.md R72), from the base word. -/
def shiftNumber (base : Nat) (n : BitVec 6) : Word := BitVec.ofNat 16 (base + (64 - n.toNat) % 64)

/-- `OP6*'2000 + F*'100 + DEV` (30_encoding.md R73), from the base word. -/
def ioNumber (base : Nat) (io : IoAddr) : Word := BitVec.ofNat 16 (base + io.function.toNat * 0o100 + io.device.toNat)

/-- The type-G words and their instructions (30_encoding.md R70). -/
def genericWords : List (Word × Instr) :=
  [ (0o000000, .hlt), (0o000043, .ink), (0o000201, .iab), (0o000401, .enb), (0o001001, .inh), (0o100000, .skp),
    (0o100001, .src), (0o100002, .sr4), (0o100004, .sr3), (0o100010, .sr2), (0o100020, .sr1), (0o100036, .ssr),
    (0o100040, .sze), (0o100100, .slz), (0o100400, .spl), (0o101000, .nop), (0o101001, .ssc), (0o101002, .ss4),
    (0o101004, .ss3), (0o101010, .ss2), (0o101020, .ss1), (0o101036, .sss), (0o101040, .snz), (0o101100, .sln),
    (0o101400, .smi), (0o140024, .chs), (0o140040, .cra), (0o140100, .ssp), (0o140200, .rcb), (0o140320, .csa),
    (0o140401, .cma), (0o140500, .ssm), (0o140600, .scb), (0o141044, .car), (0o141050, .cal), (0o141140, .icl),
    (0o141206, .aoa), (0o141216, .aca), (0o141240, .icr), (0o141340, .ica), (0o141407, .tca), (0o171020, .otk) ]

/-- The processor is about to fetch: not halted, and no interrupt recognised at this boundary (30_encoding.md R61). -/
def aboutToFetch (s : State) : Prop := s.halt = false ∧ interruptRecognised (tick s) = false

/-- The 32-bit pair A,B (20_memory.md R44). -/
def pairAB (s : State) : BitVec 32 := s.a ++ s.b

/-- The 31-bit pair that leaves B1 out (43_shift.md R151). -/
def pairWithoutB1 (s : State) : BitVec 31 := s.a ++ s.b.extractLsb' 0 15

/-- t differs from s at most in A, B, C and the Shift Count (the draw counter being the model's own). -/
def onlyShiftChanges (s t : State) : Prop :=
  t = { s with a := t.a, b := t.b, c := t.c, sc := t.sc, draws := t.draws }

/-- The instructions whose rule writes C (10_state.md R14). -/
def writesC : Instr → Bool
  | .add _ | .sub _ | .aoa | .aca | .csa | .rcb | .scb | .otk => true
  | .alr _ | .als _ | .arr _ | .ars _ | .lgl _ | .lgr _ | .lll _ | .llr _ | .lls _ | .lrl _ | .lrr _ | .lrs _ => true
  | _ => false

/-- The instructions whose rule writes A. -/
def writesA : Instr → Bool
  | .cra | .iab | .ima _ | .ink | .lda _ | .aca | .add _ | .aoa | .sub _ | .tca => true
  | .ana _ | .csa | .chs | .cma | .era _ | .ssm | .ssp | .ina _ | .cal | .car | .ica | .icl | .icr => true
  | .alr _ | .als _ | .arr _ | .ars _ | .lgl _ | .lgr _ | .lll _ | .llr _ | .lls _ | .lrl _ | .lrr _ | .lrs _ => true
  | _ => false

/-- The instructions that write B: IAB and the six long shifts (10_state.md R11). -/
def writesB : Instr → Bool
  | .iab | .lll _ | .llr _ | .lls _ | .lrl _ | .lrr _ | .lrs _ => true
  | _ => false

/-- The instructions that may change the Shift Count: OTK, the shifts, TCA (10_state.md R16). -/
def writesShiftCount : Instr → Bool
  | .otk | .tca => true
  | .alr _ | .als _ | .arr _ | .ars _ | .lgl _ | .lgr _ | .lll _ | .llr _ | .lls _ | .lrl _ | .lrr _ | .lrs _ => true
  | _ => false

/-- The instructions with a write in the list of accesses (20_memory.md R43). -/
def writesMemory : Instr → Bool
  | .ldx _ | .sta _ | .stx _ | .ima _ | .irs _ | .jst _ => true
  | _ => false

/-- The instructions that reach the devices and may change them (44_input_output.md R180). -/
def writesDevices : Instr → Bool
  | .ocp _ | .ina _ | .ota _ | .smk => true
  | _ => false

end Sys2Proof.Machine

open Sys2Proof Sys2Proof.Machine

/-! ## Encoding -/

/-- Every well-formed instruction, with every operand, decodes from the word the encoder writes for it. -/
def Obligations.DecodeOfEncodeIsIdentity : Prop := ∀ i : Instr, i.wellFormed = true → decode (encode i) = .ok i

/-- Every word that decodes is the word of the instruction it decodes to, which is well formed: no word has two readings, and
no instruction two words. -/
def Obligations.EncodeOfDecodeIsIdentity : Prop :=
  ∀ (w : Word) (i : Instr), decode w = .ok i → encode i = w ∧ i.wellFormed = true

/-- R74 (derived by the spec): the decoder answers the matching row whose mask has most one-bits; two rows match one word only
if they are SMK or OTK inside OTA. -/
def Obligations.DecodeTakesTheLongestMatchingMask : Prop :=
  (∀ (w : Word), ∀ r ∈ opcodeTable, r.accepts w = true →
    (∀ r' ∈ opcodeTable, r'.accepts w = true → onesIn r'.mask ≤ onesIn r.mask) → decode w = .ok (r.build w)) ∧
  (∀ (w : Word), ∀ r ∈ opcodeTable, ∀ r' ∈ opcodeTable, r.accepts w = true → r'.accepts w = true →
    r.mnemonic ≠ r'.mnemonic →
    (r'.mnemonic = "OTA" ∧ (r.mnemonic = "SMK" ∨ r.mnemonic = "OTK")) ∨
    (r.mnemonic = "OTA" ∧ (r'.mnemonic = "SMK" ∨ r'.mnemonic = "OTK")))

/-- R75 (the spec's decision D12): the undefined words are exactly the listed spaces, and a step that fetches one is refused.
-/
def Obligations.UndefinedWordsAreRefused : Prop :=
  (∀ w : Word, (∃ why, decode w = .error why) ↔
    (w.extractLsb' 10 4 = 0o16#4 ∨ w.extractLsb' 10 4 = 0o17#4) ∨
    (w.extractLsb' 10 4 = 0#4 ∧ w.extractLsb' 14 2 = 0b01#2 ∧ w.extractLsb' 6 2 = 0b11#2) ∨
    (w.extractLsb' 10 4 = 0#4 ∧ w.extractLsb' 14 2 ≠ 0b01#2 ∧ ∀ p ∈ genericWords, p.1 ≠ w)) ∧
  (∀ (s : State) (why : UndefinedWord), aboutToFetch s → s.p.toNat < s.memSize →
    decode (s.mem.readWord s.p) = .error why → step s = .refused (.undefinedWord why))

/-- R70: each type-G instruction is its one word, matched exactly. -/
def Obligations.GenericWordsAreMatchedExactly : Prop :=
  ∀ p ∈ genericWords, ∀ w : Word, decode w = .ok p.2 ↔ w = p.1

/-- R71 (field positions: the spec's decision D2): the MR words, as the numbers the rule gives. -/
def Obligations.MemoryReferenceWordsDecode : Prop :=
  (∀ m : MemRef,
    decode (memRefNumber 0o01 m) = .ok (.jmp m) ∧ decode (memRefNumber 0o02 m) = .ok (.lda m) ∧
    decode (memRefNumber 0o03 m) = .ok (.ana m) ∧ decode (memRefNumber 0o04 m) = .ok (.sta m) ∧
    decode (memRefNumber 0o05 m) = .ok (.era m) ∧ decode (memRefNumber 0o06 m) = .ok (.add m) ∧
    decode (memRefNumber 0o07 m) = .ok (.sub m) ∧ decode (memRefNumber 0o10 m) = .ok (.jst m) ∧
    decode (memRefNumber 0o11 m) = .ok (.cas m) ∧ decode (memRefNumber 0o12 m) = .ok (.irs m) ∧
    decode (memRefNumber 0o13 m) = .ok (.ima m)) ∧
  (∀ m : PlainRef,
    decode (plainRefNumber 0o032000 m) = .ok (.stx m) ∧ decode (plainRefNumber 0o072000 m) = .ok (.ldx m))

/-- R72 and the count of R65 (the spec's decisions D2, D10): the SH words, as the numbers the rule gives, op codes as
corrected. -/
def Obligations.ShiftWordsDecode : Prop :=
  ∀ n : BitVec 6,
    decode (shiftNumber 0o040000 n) = .ok (.lrl n) ∧ decode (shiftNumber 0o040100 n) = .ok (.lrs n) ∧
    decode (shiftNumber 0o040200 n) = .ok (.lrr n) ∧ decode (shiftNumber 0o040400 n) = .ok (.lgr n) ∧
    decode (shiftNumber 0o040500 n) = .ok (.ars n) ∧ decode (shiftNumber 0o040600 n) = .ok (.arr n) ∧
    decode (shiftNumber 0o041000 n) = .ok (.lll n) ∧ decode (shiftNumber 0o041100 n) = .ok (.lls n) ∧
    decode (shiftNumber 0o041200 n) = .ok (.llr n) ∧ decode (shiftNumber 0o041400 n) = .ok (.lgl n) ∧
    decode (shiftNumber 0o041500 n) = .ok (.als n) ∧ decode (shiftNumber 0o041600 n) = .ok (.alr n)

/-- R73 (the spec's decisions D2, D15): the IO words, as the numbers the rule gives; OTA but for the words of SMK and OTK. -/
def Obligations.InputOutputWordsDecode : Prop :=
  ∀ io : IoAddr,
    decode (ioNumber 0o030000 io) = .ok (.ocp io) ∧ decode (ioNumber 0o070000 io) = .ok (.sks io) ∧
    decode (ioNumber 0o130000 io) = .ok (.ina io) ∧
    decode (ioNumber 0o170000 io) =
      .ok (if io = ⟨0o00, 0o20⟩ then .smk else if io = ⟨0o10, 0o20⟩ then .otk else .ota io)

/-- A few words written out bit by bit from the formats of R63 to R67, one or more of each type. The field positions and the
count form are the spec's decisions D2 and D10 (log 15), SMK's word is its decision D15 (log 19), and ALS's op code is the one
corrected by 90_conflicts.md C1 (log 13). -/
def Obligations.WordsWrittenOutDecode : Prop :=
  decode 0b1100000000100000 = .ok .cra ∧
  decode 0b1000001000100000 = .ok .snz ∧
  decode 0b1010101001000000 = .ok (.irs ⟨true, false, true, 0o100⟩) ∧
  decode 0b0100100111111111 = .ok (.lda ⟨false, true, false, 0o777⟩) ∧
  decode 0b1111011001000000 = .ok (.ldx ⟨true, true, 0o100⟩) ∧
  decode 0b0100001101111101 = .ok (.als 3) ∧
  decode 0b1011001000000100 = .ok (.ina ⟨0o10, 0o04⟩) ∧
  decode 0b1111000000010000 = .ok .smk

/-- R76 (the spec's decision D23): the S and D the assembler chooses for a direct address reach it from location l, and an
address is refused only if it is neither in sector 0 nor in l's sector; an address word takes apart into what it was made of.
-/
def Obligations.DirectOperandReachesItsAddress : Prop :=
  (∀ (l y : Addr) (o : Bool) (d : BitVec 9) (s : State), directOperand l y = some (o, d) → s.here = l →
    effectiveAddress s ⟨false, false, o, d⟩ = .next y) ∧
  (∀ l y : Addr, directOperand l y = none ↔ 512 ≤ y.toNat ∧ y.toNat / 512 ≠ l.toNat / 512) ∧
  (∀ (i t : Bool) (y : Addr), bit1 (addressWord i t y) = i ∧ bit2 (addressWord i t y) = t ∧ addressField (addressWord i t y) = y)

/-! ## The instruction cycle, fetch, halt -/

/-- The instruction cycle (R61; when P is advanced is the spec's decision D5, log 22; that a halted machine whose operator will
make no move answers a fault is the model's choice, log 10): such a machine has no step; a recognised interrupt is entered
instead of a fetch; else the decoded instruction is executed with P already advanced, and PIDELAY is cleared at its completion
unless it is ENB. Before that, the surroundings of a running machine move: the devices always (`Dev.tick`, R180; MASK and the
record stay, R22), and the operator, a listed one by his next move, any other one to any switch positions, without end (R21; the
form is the model's, log 8, log 20); no register and no memory changes (R46). That a move which presses START on a running
machine does no more than that is the model's choice, unsafe (log 10): R275 defines START only for HALT = 1. -/
def Obligations.StepRunsTheDecodedInstruction : Prop :=
  (∀ s : State, s.halt = true → s.operator = .listed [] → step s = .fault .halted) ∧
  (∀ s : State, s.halt = false →
    (tick s).pi = true ∧ (tick s).piDelay = false ∧ (tick s).dev.irq = true → step s = interruptEntry (tick s)) ∧
  (∀ (s : State) (i : Instr), s.halt = false →
    ¬((tick s).pi = true ∧ (tick s).piDelay = false ∧ (tick s).dev.irq = true) →
    s.p.toNat < s.memSize → decode (s.mem.readWord s.p) = .ok i →
    step s = andThen (exec i { tick s with p := s.p + 1 }) fun t =>
      .next { t with piDelay := if i = .enb then t.piDelay else false }) ∧
  (∀ s : State, s.operator = .listed [] → tick s = { s with dev := s.dev.tick }) ∧
  (∀ (s : State) (move : OperatorMove) (rest : List OperatorMove), s.halt = false → s.operator = .listed (move :: rest) →
    tick s = { s with switches := move.switches, operator := .listed rest, dev := s.dev.tick }) ∧
  (∀ (s : State) (who moves : Nat), s.halt = false → s.operator = .arbitrary who moves →
    ∃ w : SenseSwitches, tick s = { s with switches := w, operator := .arbitrary who (moves + 1), dev := s.dev.tick }) ∧
  (∀ dv : DeviceEnv, dv.tick.mask = dv.mask ∧ dv.tick.record = dv.record)

/-- The model's choice of outcome for halt mode (log 10), after R303, R20, R275: in halt mode nothing but the surroundings
moves; with an operator who will make no move the state is final; a move clears HALT exactly if it presses START, and no register
and no memory changes; an operator of whom nothing is known may press START or not (log 20). -/
def Obligations.HaltLastsUntilStart : Prop :=
  (∀ s : State, s.halt = true → s.operator = .listed [] → step s = .fault .halted) ∧
  (∀ (s : State) (move : OperatorMove) (rest : List OperatorMove), s.halt = true → s.operator = .listed (move :: rest) →
    step s = .next { s with halt := !move.start, switches := move.switches, operator := .listed rest, dev := s.dev.tick }) ∧
  (∀ (s : State) (who moves : Nat), s.halt = true → s.operator = .arbitrary who moves →
    ∃ (w : SenseSwitches) (h : Bool),
      step s = .next { s with halt := h, switches := w, operator := .arbitrary who (moves + 1), dev := s.dev.tick })

/-- Every access outside installed memory refuses the step (R41, R42, R66 point (d), R261, R268; the spec's decision D6): a fetch;
the operand of every MR-type instruction but JMP, which accesses none; an address word of an indirect chain, of JMP too,
exactly for the chains that come to one; and an address word or the link word of an interrupt entry. -/
def Obligations.OutsideInstalledMemoryIsRefused : Prop :=
  (∀ s : State, aboutToFetch s → ¬ s.p.toNat < s.memSize → step s = .refused .outsideInstalledMemory) ∧
  (∀ (i : Instr) (m : MemRef) (s : State) (y : Addr), memRefOf i = some m → i ≠ .jmp m → s.dp = false → s.extmd = false →
    effectiveAddress s m = .next y → ¬ y.toNat < s.memSize → exec i s = .refused .outsideInstalledMemory) ∧
  (∀ (s : State) (m : MemRef), effectiveAddress s m = .refused .outsideInstalledMemory ↔
    ChainLeaves s m.indirect (indexIf s m.indexed (sectorAddress s m.ownSector m.disp))) ∧
  (∀ (i : Instr) (m : MemRef) (s : State), memRefOf i = some m → s.dp = false → s.extmd = false →
    effectiveAddress s m = .refused .outsideInstalledMemory → exec i s = .refused .outsideInstalledMemory) ∧
  (∀ s : State, s.halt = false → s.pi = true → s.piDelay = false → (tick s).dev.irq = true → s.extmd = false →
    (ChainLeaves s true 0o00063 ∨ ∃ y : Addr, ChainEnds s true 0o00063 y ∧ ¬ y.toNat < s.memSize) →
    step s = .refused .outsideInstalledMemory)

/-- R78 (the spec's decisions D8, D9): G, SH and IO instructions answer a next state whatever DP and EXTMD are; MR-type ones
are refused while DP or EXTMD is 1. -/
def Obligations.KeysStopOnlyMemoryReferences : Prop :=
  (∀ (i : Instr) (s : State), memRefOf i = none → ∃ t, exec i s = .next t) ∧
  (∀ (i : Instr) (m : MemRef) (s : State), memRefOf i = some m → s.dp = true → exec i s = .refused .dpModeSet) ∧
  (∀ (i : Instr) (m : MemRef) (s : State), memRefOf i = some m → s.dp = false → s.extmd = true →
    exec i s = .refused .extmdSet)

/-- A word stored by STA is what a fetch at its address sees next (R47, the spec's decision D20). -/
def Obligations.FetchSeesTheLatestStore : Prop :=
  ∀ (s : State) (m : MemRef) (y : Addr) (i : Instr), s.mem.wf → Addresses s m y → decode s.a = .ok i →
    ∃ t, exec (.sta m) s = .next t ∧ fetchDecode { t with p := y } = .next i

/-! ## Effective addresses -/

/-- R66 (the spec's decision D3): EA is what the unbounded loop gives, from the sector and index arithmetic written with
numbers. -/
def Obligations.EffectiveAddressFollowsTheWholeChain : Prop :=
  ∀ (s : State) (m : MemRef), ∃ start : Addr,
    start.toNat = ((if m.ownSector then s.here.toNat / 512 * 512 else 0) + m.disp.toNat
      + (if m.indexed then s.x.toNat else 0)) % 16384 ∧
    ∀ y : Addr, effectiveAddress s m = .next y ↔ ChainEnds s m.indirect start y

/-- R66 point (e) (the spec's decision D24; the bound and the fault are the model's, log 11): the model calls a chain endless
exactly if it goes on for any number of address words, and every MR-type instruction with such an operand makes no step. -/
def Obligations.EndlessChainHangs : Prop :=
  (∀ (s : State) (m : MemRef), effectiveAddress s m = .fault .endlessIndirect ↔
    ∀ k, chainGoesOn s k m.indirect (indexIf s m.indexed (sectorAddress s m.ownSector m.disp))) ∧
  (∀ (i : Instr) (m : MemRef) (s : State), memRefOf i = some m → s.dp = false → s.extmd = false →
    effectiveAddress s m = .fault .endlessIndirect → exec i s = .fault .endlessIndirect) ∧
  (∀ (s : State) (y : Addr) (k : Nat), y.toNat < s.memSize → s.mem.readWord y = addressWord true false y →
    chainGoesOn s k true y)

/-- When EA is answered (R66, the spec's decision D3), in the two plain cases: the direct form always; one indirect level, if
its address word is installed and has I = 0. -/
def Obligations.DirectAndOneLevelAddressesAreAnswered : Prop :=
  (∀ (s : State) (t o : Bool) (d : BitVec 9), ∃ y, effectiveAddress s ⟨false, t, o, d⟩ = .next y ∧
    y.toNat = ((if o then s.here.toNat / 512 * 512 else 0) + d.toNat + (if t then s.x.toNat else 0)) % 16384) ∧
  (∀ (s : State) (t o : Bool) (d : BitVec 9) (z : Addr), effectiveAddress s ⟨false, t, o, d⟩ = .next z →
    z.toNat < s.memSize → bit1 (s.mem.readWord z) = false →
    ∃ y, effectiveAddress s ⟨true, t, o, d⟩ = .next y ∧
      y.toNat = ((addressField (s.mem.readWord z)).toNat + (if bit2 (s.mem.readWord z) then s.x.toNat else 0)) % 16384)

/-! ## Memory and invariants -/

/-- R41 (the spec's decision D6): a read answers M[y] inside installed memory, location '00000 included, and is refused
outside. -/
def Obligations.MemReadAnswersInstalledWords : Prop :=
  ∀ (s : State) (y : Addr),
    (y.toNat < s.memSize → memRead s y = .next (s.mem.readWord y)) ∧
    (s.memSize ≤ y.toNat → memRead s y = .refused .outsideInstalledMemory)

/-- R42 (the spec's decisions D6, D7): a write changes M[y] alone, and X too if y is '00000; outside installed memory it is
refused. -/
def Obligations.MemWriteStoresOneWordAndMirrorsX : Prop :=
  ∀ (s : State) (y : Addr) (v : Word), s.mem.wf →
    (y.toNat < s.memSize → ∃ t, memWrite s y v = .next t ∧ Stored s t y v ∧ t = { s with mem := t.mem, x := t.x }) ∧
    (s.memSize ≤ y.toNat → memWrite s y v = .refused .outsideInstalledMemory)

/-- Every step keeps the model's invariant of memory (log 1, log 4): canonical memory, MEMSIZE in range, nothing listed
outside installed memory. -/
def Obligations.StepKeepsTheInvariant : Prop := ∀ s t : State, s.Inv → step s = .next t → t.Inv

/-- The state after reset, the model's choice (log 2, log 4), satisfies the invariant. -/
def Obligations.ResetSatisfiesTheInvariant : Prop := State.reset.Inv

/-- Canonical memories (log 1) that read alike are the same data. -/
def Obligations.CanonicalMemoriesThatReadAlikeAreEqual : Prop :=
  ∀ m n : Memory, m.wf → n.wf → (∀ cell, m.readByte cell = n.readByte cell) → m = n

/-- X and M['00000], once equal, stay equal (R12, R42, the spec's decision D7), whatever a step does, interrupt entry
included; LDX and any store to location '00000 make them equal. -/
def Obligations.StepKeepsXEqualToLocationZero : Prop :=
  (∀ s t : State, s.mem.wf → s.Mirrored → step s = .next t → t.Mirrored) ∧
  (∀ (s t : State) (m : PlainRef), s.mem.wf → exec (.ldx m) s = .next t → t.Mirrored) ∧
  (∀ (s t : State) (v : Word), s.mem.wf → memWrite s 0 v = .next t → t.Mirrored)

/-- Who writes what, the registers: an instruction whose rule does not name A, B, C, X, DP, EXTMD or SC leaves it (R5, the
spec's decision D26; R11, R12, R14, R16, R18, R19). -/
def Obligations.RegistersChangeOnlyWhereARuleSaysSo : Prop :=
  ∀ (i : Instr) (s t : State), exec i s = .next t →
    (writesA i = false → t.a = s.a) ∧ (writesB i = false → t.b = s.b) ∧ (writesC i = false → t.c = s.c) ∧
    (writesMemory i = false → t.x = s.x) ∧ (i ≠ .otk → t.dp = s.dp ∧ t.extmd = s.extmd) ∧
    (writesShiftCount i = false → t.sc = s.sc)

/-- Who writes what, the rest: PI, PIDELAY, HALT, memory, MEMSIZE, the switches, MASK, the devices, the operator (R5, the spec's
decision D26; R17, R20, R21, R22, R43, R180; the operator is the model's, log 20). -/
def Obligations.ControlMemoryAndDevicesChangeOnlyWhereARuleSaysSo : Prop :=
  ∀ (i : Instr) (s t : State), exec i s = .next t →
    (i ≠ .enb → i ≠ .inh → t.pi = s.pi) ∧ (i ≠ .enb → t.piDelay = s.piDelay) ∧ (i ≠ .hlt → t.halt = s.halt) ∧
    (writesMemory i = false → t.mem = s.mem) ∧ (i ≠ .smk → t.dev.mask = s.dev.mask) ∧
    (writesDevices i = false → t.dev = s.dev) ∧
    t.memSize = s.memSize ∧ t.switches = s.switches ∧ t.operator = s.operator

/-! ## The program interrupt -/

/-- R268 (the spec's decisions D16, D28; log 18): entry stores P in bits 3-16 of the link word, keeps its bits 1-2, goes to the
word after it, clears PI and PIDELAY, and changes nothing else, but that X takes the link word when that is location '00000
(R42, the spec's decision D7; PRESUMED, unsafe, log 16), and what the surroundings' move changes; DP does not matter and
EXTMD = 1 is refused. -/
def Obligations.InterruptEntrySavesPInTheLinkWord : Prop :=
  (∀ (s : State) (y : Addr), s.mem.wf → s.halt = false → s.pi = true → s.piDelay = false → (tick s).dev.irq = true →
    s.extmd = false → followIndirect s chainFuel true 0o00063 = .next y → y.toNat < s.memSize →
    ∃ t, step s = .next t ∧ Stored s t y ((s.mem.readWord y).extractLsb' 14 2 ++ s.p) ∧
      t = { tick s with mem := t.mem, x := t.x, p := y + 1, pi := false, piDelay := false }) ∧
  (∀ s : State, s.halt = false → s.pi = true → s.piDelay = false → (tick s).dev.irq = true → s.extmd = true →
    step s = .refused .extmdSet)

/-- R266 (the spec's decision D17): PIDELAY is 1 after a step of a running machine exactly if that step executed ENB; and
while it is 1 no interrupt is recognised, whatever the surroundings do. -/
def Obligations.InterruptsAreHeldOffForOneInstructionAfterEnb : Prop :=
  (∀ s t : State, s.halt = false → step s = .next t →
    (t.piDelay = true ↔ interruptRecognised (tick s) = false ∧ decode (s.mem.readWord s.p) = .ok .enb)) ∧
  (∀ t : State, t.piDelay = true → interruptRecognised (tick t) = false)

/-- R269 (derived by the spec): `ENB` and then `JMP*` through the link word return to the saved address with interrupts
permitted, and no interrupt is taken before, even with a request standing. -/
def Obligations.EnbAndJumpIndirectReturnFromTheHandler : Prop :=
  ∀ (s : State) (m : MemRef) (link ret : Addr), s.halt = false → s.pi = false → s.dp = false → s.extmd = false →
    s.p.toNat < s.memSize → (s.p + 1).toNat < s.memSize → link.toNat < s.memSize →
    decode (s.mem.readWord s.p) = .ok .enb → decode (s.mem.readWord (s.p + 1)) = .ok (.jmp m) →
    m.indirect = true → m.indexed = false → sectorAddress { s with p := s.p + 2 } m.ownSector m.disp = link →
    s.mem.readWord link = addressWord false false ret →
    ∃ u, step s = .next u ∧ interruptRecognised (tick u) = false ∧
      step u = .next { tick (tick s) with p := ret, pi := true, piDelay := false }

/-- IntRequest after SMK is 1 exactly if some device then asks and its mask flip-flop, loaded from A, lets the request pass (R264,
R184, from general knowledge; which flip-flop and which value are the device's, log 9). -/
def Obligations.MaskGatesInterruptRequests : Prop :=
  ∀ s : State, ∃ t, exec .smk s = .next t ∧ t.dev.mask = s.a ∧
    (t.dev.irq = true ↔ ∃ r ∈ t.dev.devices.requests, s.a.getMsbD r.maskBit.val = r.passesWhen)

/-! ## Timing -/

/-- R320: the cycle column, in half cycles, and the time column, in hundredths of a microsecond; HLT's are blank. That an indexed
or indirect MR-type instruction is given the direct form's figure is the model's choice (log 21), since R320 note (b) has none. -/
def Obligations.CycleAndTimeColumns : Prop :=
  (∀ m : MemRef,
    halfCycles (.lda m) = some 4 ∧ halfCycles (.sta m) = some 4 ∧ halfCycles (.ima m) = some 6 ∧ halfCycles (.add m) = some 4 ∧
    halfCycles (.sub m) = some 4 ∧ halfCycles (.ana m) = some 4 ∧ halfCycles (.era m) = some 4 ∧ halfCycles (.cas m) = some 6 ∧
    halfCycles (.irs m) = some 6 ∧ halfCycles (.jst m) = some 6 ∧ halfCycles (.jmp m) = some 2) ∧
  (∀ m : PlainRef, halfCycles (.stx m) = some 4 ∧ halfCycles (.ldx m) = some 6) ∧
  (∀ n : BitVec 6, ∀ shift ∈ ([.alr, .als, .arr, .ars, .lgl, .lgr, .lll, .llr, .lls, .lrl, .lrr, .lrs] : List (BitVec 6 → Instr)),
    halfCycles (shift n) = some (2 + n.toNat)) ∧
  (∀ io : IoAddr, halfCycles (.ina io) = some 4 ∧ halfCycles (.ocp io) = some 4 ∧ halfCycles (.ota io) = some 4 ∧
    halfCycles (.sks io) = some 4) ∧
  halfCycles .smk = some 4 ∧ halfCycles .otk = some 4 ∧ halfCycles .tca = some 3 ∧ halfCycles .hlt = none ∧
  (∀ i ∈ ([.cra, .iab, .ink, .aca, .aoa, .csa, .chs, .cma, .ssm, .ssp, .enb, .inh, .nop, .rcb, .scb, .skp, .sln, .slz, .smi, .snz,
      .spl, .sr1, .sr2, .sr3, .sr4, .src, .ss1, .ss2, .ss3, .ss4, .ssc, .ssr, .sss, .sze, .cal, .car, .ica, .icl, .icr] : List Instr),
    halfCycles i = some 2) ∧
  (∀ (i : Instr) (h : Nat), halfCycles i = some h → timeHundredths i = some (48 * h)) ∧ timeHundredths .hlt = none

/-! ## Load and store -/

/-- CRA and IAB (R100, R101). -/
def Obligations.ClearAndInterchangeRegisters : Prop :=
  IsRow 0o140040 .cra (some 2) ∧ IsRow 0o000201 .iab (some 2) ∧
  ∀ s : State, exec .cra s = .next { s with a := 0 } ∧ exec .iab s = .next { s with a := s.b, b := s.a }

/-- INK and OTK (R15, R103, R106): the keys word as a number, its parts, and OTK as the inverse of INK. That OTK ignores bits 4-11
of A is the spec's reading of a garbled line (90_conflicts.md C6). -/
def Obligations.KeysGoToAAndBack : Prop :=
  IsRow 0o000043 .ink (some 2) ∧ IsRow 0o171020 .otk (some 4) ∧
  (∀ s : State, ∃ v : Word, exec .ink s = .next { s with a := v } ∧
    v.toNat = s.c.toNat * 0o100000 + s.dp.toNat * 0o040000 + s.extmd.toNat * 0o020000 + s.sc.toNat) ∧
  (∀ s : State, exec .otk s = .next { s with
    c := s.a.getMsbD 0, dp := s.a.getMsbD 1, extmd := s.a.getMsbD 2, sc := BitVec.ofNat 5 (s.a.toNat % 0o40) }) ∧
  (∀ s t : State, exec .ink s = .next t → exec .otk t = .next t)

/-- LDA, ANA, ERA (R104, R136, R140): A from the operand word, nothing else changed, memory included. -/
def Obligations.LoadAndLogicalOperandsReachA : Prop :=
  ∀ (s : State) (m : MemRef) (y : Addr), Addresses s m y →
    exec (.lda m) s = .next { s with a := s.mem.readWord y } ∧
    exec (.ana m) s = .next { s with a := s.a &&& s.mem.readWord y } ∧
    exec (.era m) s = .next { s with a := s.a ^^^ s.mem.readWord y }

/-- STA and STX (R107, R108): the word stored and where, X if it was location '00000 (the spec's decision D7, log 16), no other
byte and no other register. -/
def Obligations.StoresReachTheirWordAlone : Prop :=
  (∀ (s : State) (m : MemRef) (y : Addr), s.mem.wf → Addresses s m y →
    ∃ t, exec (.sta m) s = .next t ∧ Stored s t y s.a ∧ t = { s with mem := t.mem, x := t.x }) ∧
  (∀ (s : State) (m : PlainRef) (y : Addr), s.mem.wf → Addresses s ⟨m.indirect, false, m.ownSector, m.disp⟩ y →
    ∃ t, exec (.stx m) s = .next t ∧ Stored s t y s.x ∧ t = { s with mem := t.mem })

/-- IMA (R102). That X follows a store to location '00000 is the spec's decision D7 (log 16). -/
def Obligations.InterchangeMemoryAndA : Prop :=
  ∀ (s : State) (m : MemRef) (y : Addr), s.mem.wf → Addresses s m y →
    ∃ t, exec (.ima m) s = .next t ∧ Stored s t y s.a ∧ t = { s with a := s.mem.readWord y, mem := t.mem, x := t.x }

/-- LDX (R105): X and location '00000 receive the operand word. -/
def Obligations.LoadXAlsoWritesLocationZero : Prop :=
  ∀ (s : State) (m : PlainRef) (y : Addr), s.mem.wf → Addresses s ⟨m.indirect, false, m.ownSector, m.disp⟩ y →
    ∃ t, exec (.ldx m) s = .next t ∧ t.x = s.mem.readWord y ∧ t.mem.readWord 0 = s.mem.readWord y ∧
      sameBytesOutside 0 s t ∧ t = { s with mem := t.mem, x := t.x }

/-! ## Arithmetic -/

/-- ADD and SUB (R122, R124; overflow as the spec's decision D13 reads it): the wrapped result, and C exactly if the true
result does not fit. -/
def Obligations.AddAndSubtract : Prop :=
  ∀ (s : State) (m : MemRef) (y : Addr), Addresses s m y →
    exec (.add m) s = .next { s with
      a := s.a + s.mem.readWord y,
      c := decide (s.a.toInt + (s.mem.readWord y).toInt < -32768 ∨ 32767 < s.a.toInt + (s.mem.readWord y).toInt) } ∧
    exec (.sub m) s = .next { s with
      a := s.a - s.mem.readWord y,
      c := decide (s.a.toInt - (s.mem.readWord y).toInt < -32768 ∨ 32767 < s.a.toInt - (s.mem.readWord y).toInt) }

/-- AOA and ACA (R123, R121; overflow as the spec's decision D13 reads it): C is set only when '077777 is passed. -/
def Obligations.AddOneAndAddC : Prop :=
  IsRow 0o141206 .aoa (some 2) ∧ IsRow 0o141216 .aca (some 2) ∧
  ∀ s : State,
    exec .aoa s = .next { s with a := s.a + 1, c := s.a == 0o077777 } ∧
    exec .aca s = .next { s with a := if s.c then s.a + 1 else s.a, c := s.c && s.a == 0o077777 }

/-- TCA (R125): the negative, '100000 staying itself; C unchanged; the Shift Count left open. -/
def Obligations.NegateAKeepsC : Prop :=
  IsRow 0o141407 .tca (some 3) ∧
  ∀ s : State, ∃ t, exec .tca s = .next t ∧ t.a.toNat = (65536 - s.a.toNat) % 65536 ∧
    (s.a ≠ 0o100000 → t.a.toInt = -s.a.toInt) ∧ t = { s with a := t.a, sc := t.sc, draws := t.draws }

/-! ## Logical and half-word -/

/-- CSA, CHS, CMA, SSM, SSP (R137 to R139, R141, R142), bit by bit; k counts from 0 at bit 1. -/
def Obligations.SignAndComplementInstructions : Prop :=
  IsRow 0o140320 .csa (some 2) ∧ IsRow 0o140024 .chs (some 2) ∧ IsRow 0o140401 .cma (some 2) ∧
  IsRow 0o140500 .ssm (some 2) ∧ IsRow 0o140100 .ssp (some 2) ∧
  ∀ s : State,
    (∃ v : Word, exec .csa s = .next { s with a := v, c := s.a.getMsbD 0 } ∧
      ∀ k < 16, v.getMsbD k = if k = 0 then false else s.a.getMsbD k) ∧
    (∃ v : Word, exec .chs s = .next { s with a := v } ∧ ∀ k < 16, v.getMsbD k = if k = 0 then !s.a.getMsbD k else s.a.getMsbD k) ∧
    (∃ v : Word, exec .cma s = .next { s with a := v } ∧ ∀ k < 16, v.getMsbD k = !s.a.getMsbD k) ∧
    (∃ v : Word, exec .ssm s = .next { s with a := v } ∧ ∀ k < 16, v.getMsbD k = if k = 0 then true else s.a.getMsbD k) ∧
    (∃ v : Word, exec .ssp s = .next { s with a := v } ∧ ∀ k < 16, v.getMsbD k = if k = 0 then false else s.a.getMsbD k)

/-- CAL, CAR, ICA, ICL, ICR (R250 to R254), the halves of A as numbers. -/
def Obligations.HalfWordInstructions : Prop :=
  IsRow 0o141050 .cal (some 2) ∧ IsRow 0o141044 .car (some 2) ∧ IsRow 0o141340 .ica (some 2) ∧
  IsRow 0o141140 .icl (some 2) ∧ IsRow 0o141240 .icr (some 2) ∧
  ∀ s : State,
    (∃ v : Word, exec .cal s = .next { s with a := v } ∧ v.toNat = s.a.toNat % 256) ∧
    (∃ v : Word, exec .car s = .next { s with a := v } ∧ v.toNat = s.a.toNat / 256 * 256) ∧
    (∃ v : Word, exec .ica s = .next { s with a := v } ∧ v.toNat = s.a.toNat % 256 * 256 + s.a.toNat / 256) ∧
    (∃ v : Word, exec .icl s = .next { s with a := v } ∧ v.toNat = s.a.toNat / 256) ∧
    (∃ v : Word, exec .icr s = .next { s with a := v } ∧ v.toNat = s.a.toNat % 256 * 256)

/-! ## Shifts, for every n from 0 to 63; the Shift Count is left open -/

/-- ALR and ARR (R152, R154). -/
def Obligations.RotatesOfA : Prop :=
  ∀ (s : State) (n : BitVec 6),
    (∃ t, exec (.alr n) s = .next t ∧ t.a = s.a.rotateLeft n.toNat ∧ t.b = s.b ∧
      t.c = (n != 0 && t.a.getMsbD 15) ∧ onlyShiftChanges s t) ∧
    (∃ t, exec (.arr n) s = .next t ∧ t.a = s.a.rotateRight n.toNat ∧ t.b = s.b ∧
      t.c = (n != 0 && t.a.getMsbD 0) ∧ onlyShiftChanges s t)

/-- LGL and LGR (R156, R157): C is the last bit that left A, 0 beyond sixteen. -/
def Obligations.LogicalShiftsOfA : Prop :=
  ∀ (s : State) (n : BitVec 6),
    (∃ t, exec (.lgl n) s = .next t ∧ t.a = s.a <<< n.toNat ∧ t.b = s.b ∧
      t.c = (n != 0 && s.a.getMsbD (n.toNat - 1)) ∧ onlyShiftChanges s t) ∧
    (∃ t, exec (.lgr n) s = .next t ∧ t.a = s.a >>> n.toNat ∧ t.b = s.b ∧
      t.c = (n != 0 && s.a.getLsbD (n.toNat - 1)) ∧ onlyShiftChanges s t)

/-- ALS and ARS (R153, R155): ALS sets C exactly if `signed(A) * 2^n` does not fit (overflow as the spec's decision D13 reads it,
log 17); ARS leaves in C the last bit that left A16, the sign beyond sixteen. -/
def Obligations.ArithmeticShiftsOfA : Prop :=
  ∀ (s : State) (n : BitVec 6),
    (∃ t, exec (.als n) s = .next t ∧ t.a = s.a <<< n.toNat ∧ t.b = s.b ∧
      (t.c = true ↔ ¬(-32768 ≤ s.a.toInt * 2 ^ n.toNat ∧ s.a.toInt * 2 ^ n.toNat ≤ 32767)) ∧ onlyShiftChanges s t) ∧
    (∃ t, exec (.ars n) s = .next t ∧ t.a.toInt = s.a.toInt / 2 ^ n.toNat ∧ t.b = s.b ∧
      t.c = (n != 0 && if n.toNat ≤ 16 then s.a.getLsbD (n.toNat - 1) else s.a.getMsbD 0) ∧ onlyShiftChanges s t)

/-- LLR and LRR (R159, R162). -/
def Obligations.LongRotates : Prop :=
  ∀ (s : State) (n : BitVec 6),
    (∃ t, exec (.llr n) s = .next t ∧ pairAB t = (pairAB s).rotateLeft n.toNat ∧
      t.c = (n != 0 && t.b.getMsbD 15) ∧ onlyShiftChanges s t) ∧
    (∃ t, exec (.lrr n) s = .next t ∧ pairAB t = (pairAB s).rotateRight n.toNat ∧
      t.c = (n != 0 && t.a.getMsbD 0) ∧ onlyShiftChanges s t)

/-- LLL and LRL (R158, R161): C is the last bit that left the pair, 0 beyond thirty-two. -/
def Obligations.LongLogicalShifts : Prop :=
  ∀ (s : State) (n : BitVec 6),
    (∃ t, exec (.lll n) s = .next t ∧ pairAB t = pairAB s <<< n.toNat ∧
      t.c = (n != 0 && (pairAB s).getMsbD (n.toNat - 1)) ∧ onlyShiftChanges s t) ∧
    (∃ t, exec (.lrl n) s = .next t ∧ pairAB t = pairAB s >>> n.toNat ∧
      t.c = (n != 0 && (pairAB s).getLsbD (n.toNat - 1)) ∧ onlyShiftChanges s t)

/-- LLS and LRS (R160, R163): the 31-bit number, B1 kept; LLS sets C exactly if the number times 2^n does not fit in 31 bits (the
sign having changed at any time, 90_conflicts.md C5 and the spec's decision D13, log 17); LRS leaves in C the last bit that left
B16, the sign beyond thirty-one. -/
def Obligations.LongArithmeticShifts : Prop :=
  ∀ (s : State) (n : BitVec 6),
    (∃ t, exec (.lls n) s = .next t ∧ pairWithoutB1 t = pairWithoutB1 s <<< n.toNat ∧ t.b.getMsbD 0 = s.b.getMsbD 0 ∧
      (t.c = true ↔ ¬(-2 ^ 30 ≤ (pairWithoutB1 s).toInt * 2 ^ n.toNat ∧ (pairWithoutB1 s).toInt * 2 ^ n.toNat < 2 ^ 30)) ∧
      onlyShiftChanges s t) ∧
    (∃ t, exec (.lrs n) s = .next t ∧ (pairWithoutB1 t).toInt = (pairWithoutB1 s).toInt / 2 ^ n.toNat ∧
      t.b.getMsbD 0 = s.b.getMsbD 0 ∧
      t.c = (n != 0 && if n.toNat ≤ 31 then (pairWithoutB1 s).getLsbD (n.toNat - 1) else s.a.getMsbD 0) ∧
      onlyShiftChanges s t)

/-! ## Input-output -/

/-- INA (R181, the spec's decisions D14, D25), for whatever the devices answer (R180): the word is ORed in, or replaces A with
IR[7] = 1, and the next instruction is skipped; a device not ready gives no skip and leaves A, or with IR[7] = 1 leaves it or
clears it. -/
def Obligations.InputToA : Prop :=
  (∀ (s : State) (io : IoAddr) (dv : DeviceEnv) (d : Word), s.dev.ina io = (dv, some d) →
    exec (.ina io) s = .next { s with dev := dv, a := if 8 ≤ io.function.toNat then d else s.a ||| d, p := s.p + 1 }) ∧
  (∀ (s : State) (io : IoAddr) (dv : DeviceEnv), s.dev.ina io = (dv, none) →
    ∃ t, exec (.ina io) s = .next t ∧ t = { s with dev := dv, a := t.a, draws := t.draws } ∧
      (io.function.toNat < 8 → t.a = s.a) ∧ (t.a = s.a ∨ t.a = 0))

/-- OCP, SMK, OTA and SKS (R182, R184, R183, R185, the spec's decision D14), for whatever the devices answer and however they
change (R180). -/
def Obligations.OutputAndReadyLineInstructions : Prop :=
  ∀ (s : State) (io : IoAddr),
    exec (.ocp io) s = .next { s with dev := s.dev.ocp io } ∧
    exec .smk s = .next { s with dev := s.dev.smk s.a } ∧ (s.dev.smk s.a).mask = s.a ∧
    exec (.ota io) s = .next { s with
      dev := (s.dev.ota io s.a).1, p := if (s.dev.ota io s.a).2 then s.p + 1 else s.p } ∧
    exec (.sks io) s = .next { s with p := if s.dev.sks io then s.p + 1 else s.p }

/-! ## Control -/

/-- CAS (R200): signed comparison, no skip, one, or two; nothing but P changes. -/
def Obligations.CompareSkipsByTheSignedOrder : Prop :=
  ∀ (s : State) (m : MemRef) (y : Addr), Addresses s m y →
    (s.a.toInt > (s.mem.readWord y).toInt → exec (.cas m) s = .next s) ∧
    (s.a = s.mem.readWord y → exec (.cas m) s = .next { s with p := s.p + 1 }) ∧
    (s.a.toInt < (s.mem.readWord y).toInt → exec (.cas m) s = .next { s with p := s.p + 2 })

/-- IRS (R204): the word plus one is stored, and one instruction is skipped exactly if the old word was '177777. That X follows a
store to location '00000 is the spec's decision D7 (log 16). -/
def Obligations.IncrementReplaceAndSkip : Prop :=
  ∀ (s : State) (m : MemRef) (y : Addr), s.mem.wf → Addresses s m y →
    ∃ t, exec (.irs m) s = .next t ∧ Stored s t y (s.mem.readWord y + 1) ∧
      t = { s with mem := t.mem, x := t.x, p := if s.mem.readWord y = 0o177777 then s.p + 1 else s.p }

/-- JMP (R205): P becomes EA; the word there is not read, so it need not be installed. -/
def Obligations.JumpLoadsPWithTheAddress : Prop :=
  ∀ (s : State) (m : MemRef) (y : Addr), s.dp = false → s.extmd = false → effectiveAddress s m = .next y →
    exec (.jmp m) s = .next { s with p := y }

/-- JST (R206): L + 1 goes to bits 3-16 of the word at EA, whose bits 1-2 stay, and control to EA + 1. That X follows a store to
location '00000 is the spec's decision D7 (log 16). -/
def Obligations.JumpAndStoreLocation : Prop :=
  ∀ (s : State) (m : MemRef) (y : Addr), s.mem.wf → Addresses s m y →
    ∃ (t : State) (v : Word), exec (.jst m) s = .next t ∧ Stored s t y v ∧
      bit1 v = bit1 (s.mem.readWord y) ∧ bit2 v = bit2 (s.mem.readWord y) ∧ addressField v = s.p ∧
      t = { s with mem := t.mem, x := t.x, p := y + 1 }

/-- Subroutine linkage: `JMP*` through the link word JST wrote returns to the word after the JST, from any state that still
has that memory (R205, R206). -/
def Obligations.JumpIndirectReturnsFromASubroutine : Prop :=
  ∀ (s t u : State) (m m' : MemRef) (y : Addr), s.mem.wf → Addresses s m y →
    bit1 (s.mem.readWord y) = false → bit2 (s.mem.readWord y) = false → exec (.jst m) s = .next t →
    u.mem = t.mem → u.memSize = t.memSize → u.dp = false → u.extmd = false →
    m'.indirect = true → m'.indexed = false → sectorAddress u m'.ownSector m'.disp = y →
    exec (.jmp m') u = .next { u with p := s.p }

/-- SZE, SNZ, SMI, SPL, SLN, SLZ (R229, R215, R214, R216, R212, R213). -/
def Obligations.SkipsOnA : Prop :=
  IsRow 0o100040 .sze (some 2) ∧ IsRow 0o101040 .snz (some 2) ∧ IsRow 0o101400 .smi (some 2) ∧
  IsRow 0o100400 .spl (some 2) ∧ IsRow 0o101100 .sln (some 2) ∧ IsRow 0o100100 .slz (some 2) ∧
  ∀ s : State,
    exec .sze s = .next { s with p := if s.a = 0 then s.p + 1 else s.p } ∧
    exec .snz s = .next { s with p := if s.a = 0 then s.p else s.p + 1 } ∧
    exec .smi s = .next { s with p := if s.a.toInt < 0 then s.p + 1 else s.p } ∧
    exec .spl s = .next { s with p := if s.a.toInt < 0 then s.p else s.p + 1 } ∧
    exec .sln s = .next { s with p := if s.a.toNat % 2 = 1 then s.p + 1 else s.p } ∧
    exec .slz s = .next { s with p := if s.a.toNat % 2 = 1 then s.p else s.p + 1 }

/-- SKP, NOP, SRC, SSC, RCB, SCB (R211, R207, R221, R226, R209, R210); and NOP's completion clears PIDELAY (R207). -/
def Obligations.SkipsOnCAndSettingsOfC : Prop :=
  IsRow 0o100000 .skp (some 2) ∧ IsRow 0o101000 .nop (some 2) ∧ IsRow 0o100001 .src (some 2) ∧
  IsRow 0o101001 .ssc (some 2) ∧ IsRow 0o140200 .rcb (some 2) ∧ IsRow 0o140600 .scb (some 2) ∧
  ∀ s : State,
    exec .skp s = .next { s with p := s.p + 1 } ∧ exec .nop s = .next s ∧
    exec .src s = .next { s with p := if s.c then s.p else s.p + 1 } ∧
    exec .ssc s = .next { s with p := if s.c then s.p + 1 else s.p } ∧
    exec .rcb s = .next { s with c := false } ∧ exec .scb s = .next { s with c := true } ∧
    complete .nop s = { s with piDelay := false }

/-- The sense switch skips (R217 to R220, R222 to R225, R227, R228). That SR4 and SS4 test switch 4 is the spec's reading in
90_conflicts.md C3: the source's two rows say switch 2. -/
def Obligations.SenseSwitchSkips : Prop :=
  IsRow 0o100020 .sr1 (some 2) ∧ IsRow 0o100010 .sr2 (some 2) ∧ IsRow 0o100004 .sr3 (some 2) ∧
  IsRow 0o100002 .sr4 (some 2) ∧ IsRow 0o101020 .ss1 (some 2) ∧ IsRow 0o101010 .ss2 (some 2) ∧
  IsRow 0o101004 .ss3 (some 2) ∧ IsRow 0o101002 .ss4 (some 2) ∧ IsRow 0o100036 .ssr (some 2) ∧
  IsRow 0o101036 .sss (some 2) ∧
  ∀ s : State,
    exec .sr1 s = .next { s with p := if s.switches.sw1 then s.p else s.p + 1 } ∧
    exec .sr2 s = .next { s with p := if s.switches.sw2 then s.p else s.p + 1 } ∧
    exec .sr3 s = .next { s with p := if s.switches.sw3 then s.p else s.p + 1 } ∧
    exec .sr4 s = .next { s with p := if s.switches.sw4 then s.p else s.p + 1 } ∧
    exec .ss1 s = .next { s with p := if s.switches.sw1 then s.p + 1 else s.p } ∧
    exec .ss2 s = .next { s with p := if s.switches.sw2 then s.p + 1 else s.p } ∧
    exec .ss3 s = .next { s with p := if s.switches.sw3 then s.p + 1 else s.p } ∧
    exec .ss4 s = .next { s with p := if s.switches.sw4 then s.p + 1 else s.p } ∧
    exec .ssr s = .next { s with p :=
      if s.switches = ⟨false, false, false, false⟩ then s.p + 1 else s.p } ∧
    exec .sss s = .next { s with p :=
      if s.switches = ⟨false, false, false, false⟩ then s.p else s.p + 1 }

/-- ENB, INH, HLT (R201, R203, R202). That ENB sets PIDELAY also when PI is already 1 is the spec's decision D17. -/
def Obligations.InterruptPermissionAndHalt : Prop :=
  IsRow 0o000401 .enb (some 2) ∧ IsRow 0o001001 .inh (some 2) ∧ IsRow 0o000000 .hlt none ∧
  ∀ s : State,
    exec .enb s = .next { s with pi := true, piDelay := true } ∧
    exec .inh s = .next { s with pi := false } ∧ exec .hlt s = .next { s with halt := true }
end

