-- ==== Sys2Proof/Laws/Decode.lean ====
section
/-! SUPPORT. The fields of the words the encoder writes, and the mask and pattern they match. -/

namespace Sys2Proof

/-- Each bit of an MR word. -/
theorem memRefWord_getLsbD (op : BitVec 4) (m : MemRef) (k : Nat) :
    (memRefWord op m).getLsbD k =
      if k < 9 then m.disp.getLsbD k else if k = 9 then m.ownSector else if k < 14 then op.getLsbD (k - 10)
      else if k = 14 then m.indexed else if k = 15 then m.indirect else false := by
  unfold memRefWord
  simp only [BitVec.getLsbD_append, BitVec.getLsbD_ofBool]
  repeat' split
  all_goals first
    | rfl
    | omega
    | (simp; omega)

/-- Each bit of an SH word. -/
theorem shiftWord_getLsbD (op : BitVec 10) (n : BitVec 6) (k : Nat) :
    (shiftWord op n).getLsbD k = if k < 6 then (-n).getLsbD k else op.getLsbD (k - 6) := by
  unfold shiftWord
  rw [BitVec.getLsbD_append]

/-- Each bit of an IO word. -/
theorem ioWord_getLsbD (op : BitVec 6) (io : IoAddr) (k : Nat) :
    (ioWord op io).getLsbD k =
      if k < 6 then io.device.getLsbD k else if k < 10 then io.function.getLsbD (k - 6) else op.getLsbD (k - 10) := by
  unfold ioWord
  simp only [BitVec.getLsbD_append]
  repeat' split
  all_goals first
    | rfl
    | omega

theorem memRefField_memRefWord (op : BitVec 4) (m : MemRef) : memRefField (memRefWord op m) = m := by
  obtain ⟨i, t, o, d⟩ := m
  simp only [memRefField, bit1, bit2, bit7, dispField, memRefWord_getLsbD]
  congr 1
  apply BitVec.eq_of_getLsbD_eq
  intro k hk
  simp [memRefWord_getLsbD, hk]

theorem plainRefField_plainRefWord (t : Bool) (m : PlainRef) : plainRefField (plainRefWord t m) = m := by
  obtain ⟨i, o, d⟩ := m
  simp only [plainRefField, plainRefWord, bit1, bit7, dispField, memRefWord_getLsbD]
  congr 1
  apply BitVec.eq_of_getLsbD_eq
  intro k hk
  simp [memRefWord_getLsbD, hk]

theorem countField_shiftWord (op : BitVec 10) (n : BitVec 6) : countField (shiftWord op n) = n := by
  have h : (shiftWord op n).extractLsb' 0 6 = -n := by
    apply BitVec.eq_of_getLsbD_eq
    intro k hk
    simp [shiftWord_getLsbD, hk]
  rw [countField, h, BitVec.neg_neg]

theorem ioField_ioWord (op : BitVec 6) (io : IoAddr) : ioField (ioWord op io) = io := by
  obtain ⟨f, d⟩ := io
  simp only [ioField]
  congr 1
  · apply BitVec.eq_of_getLsbD_eq
    intro k hk
    simp [ioWord_getLsbD, hk]
    omega
  · apply BitVec.eq_of_getLsbD_eq
    intro k hk
    simp [ioWord_getLsbD, hk]

/-- Bits 1 and 2 of a word whose address field is replaced. -/
theorem bit1_replaceAddress (w : Word) (y : Addr) : bit1 (w.extractLsb' 14 2 ++ y) = bit1 w := by
  rw [bit1, bit1, BitVec.getLsbD_append, BitVec.getLsbD_extractLsb']
  simp only [show ¬(15 : Nat) < 14 by decide, if_false]
  simp

theorem bit2_replaceAddress (w : Word) (y : Addr) : bit2 (w.extractLsb' 14 2 ++ y) = bit2 w := by
  rw [bit2, bit2, BitVec.getLsbD_append, BitVec.getLsbD_extractLsb']
  simp only [show ¬(14 : Nat) < 14 by decide, if_false]
  simp

theorem addressField_replaceAddress (w : Word) (y : Addr) : addressField (w.extractLsb' 14 2 ++ y) = y := by
  apply BitVec.eq_of_getLsbD_eq
  intro k hk
  rw [addressField, BitVec.getLsbD_extractLsb', BitVec.getLsbD_append]
  simp [hk]

/-- An MR word with op code op matches the row of op. -/
theorem memRefWord_mask (op : BitVec 4) (m : MemRef) : memRefWord op m &&& 0x3C00#16 = op.setWidth 16 <<< 10 := by
  apply BitVec.eq_of_getLsbD_eq
  intro k hk
  rw [BitVec.getLsbD_and, memRefWord_getLsbD]
  interval_cases k <;> simp

/-- An STX or LDX word matches the row of its five-bit op code. -/
theorem plainRefWord_mask (t : Bool) (m : PlainRef) :
    plainRefWord t m &&& 0x7C00#16 = (BitVec.ofBool t ++ 0o15#4).setWidth 16 <<< 10 := by
  apply BitVec.eq_of_getLsbD_eq
  intro k hk
  rw [BitVec.getLsbD_and, plainRefWord, memRefWord_getLsbD]
  cases t <;> interval_cases k <;> simp

/-- An SH word with op code op matches the row of op. -/
theorem shiftWord_mask (op : BitVec 10) (n : BitVec 6) : shiftWord op n &&& 0xFFC0#16 = op.setWidth 16 <<< 6 := by
  apply BitVec.eq_of_getLsbD_eq
  intro k hk
  rw [BitVec.getLsbD_and, shiftWord_getLsbD]
  interval_cases k <;> simp

/-- An IO word with op code op matches the row of op. -/
theorem ioWord_mask (op : BitVec 6) (io : IoAddr) : ioWord op io &&& 0xFC00#16 = op.setWidth 16 <<< 10 := by
  apply BitVec.eq_of_getLsbD_eq
  intro k hk
  rw [BitVec.getLsbD_and, ioWord_getLsbD]
  interval_cases k <;> simp

end Sys2Proof
end

