-- ==== Sys2Proof/Laws/Devices.lean ====
section
/-! SUPPORT. What each operation of the device environment leaves in MASK, the devices and the record. -/

namespace Sys2Proof.Machine

variable (dv : DeviceEnv) (io : IoAddr) (w : Word)

@[simp] theorem DeviceEnv.ocp_mask : (dv.ocp io).mask = dv.mask := rfl
@[simp] theorem DeviceEnv.ocp_devices : (dv.ocp io).devices = dv.devices.react (.pulse io) := rfl
@[simp] theorem DeviceEnv.ocp_record : (dv.ocp io).record = .pulse io :: dv.record := rfl
@[simp] theorem DeviceEnv.ina_mask : ((dv.ina io).1).mask = dv.mask := rfl
@[simp] theorem DeviceEnv.ina_devices : ((dv.ina io).1).devices = dv.devices.react (.input io) := rfl
@[simp] theorem DeviceEnv.ina_record : ((dv.ina io).1).record = .input io (dv.ina io).2 :: dv.record := rfl
@[simp] theorem DeviceEnv.ota_mask : ((dv.ota io w).1).mask = dv.mask := rfl
@[simp] theorem DeviceEnv.ota_devices : ((dv.ota io w).1).devices = dv.devices.react (.output io w) := rfl
@[simp] theorem DeviceEnv.ota_record : ((dv.ota io w).1).record = .output io w (dv.ota io w).2 :: dv.record := rfl
@[simp] theorem DeviceEnv.smk_mask : (dv.smk w).mask = w := rfl
@[simp] theorem DeviceEnv.smk_devices : (dv.smk w).devices = dv.devices.react (.mask w) := rfl
@[simp] theorem DeviceEnv.smk_record : (dv.smk w).record = .mask w :: dv.record := rfl
@[simp] theorem DeviceEnv.tick_mask : (dv.tick).mask = dv.mask := rfl
@[simp] theorem DeviceEnv.tick_devices : (dv.tick).devices = dv.devices.react .time := rfl
@[simp] theorem DeviceEnv.tick_record : (dv.tick).record = dv.record := rfl

/-- IntRequest is raised exactly by a request that its device's mask flip-flop lets pass. -/
theorem DeviceEnv.irq_iff : dv.irq = true ↔ ∃ r ∈ dv.devices.requests, dv.mask.getMsbD r.maskBit.val = r.passesWhen := by
  simp [DeviceEnv.irq, Request.passes]

end Sys2Proof.Machine
end

