-- ==== Sys2Proof/Laws/Flags.lean ====
section
/-! SUPPORT. What an arithmetic result leaves in A and C. -/

namespace Sys2Proof.Machine

/-- An arithmetic result changes A and C, and nothing else. -/
theorem State.setArith_eq (s : State) (r : Int) :
    s.setArith r = { s with a := BitVec.ofInt 16 r, c := overflows r } := rfl

theorem overflows_eq_true {r : Int} : overflows r = true ↔ r < -32768 ∨ 32767 < r := by
  simp [overflows]

/-- The true sum of two words, kept to 16 bits, is their wrapping sum. -/
theorem ofInt_add (a b : Word) : BitVec.ofInt 16 (a.toInt + b.toInt) = a + b := by
  rw [BitVec.ofInt_add, BitVec.ofInt_toInt, BitVec.ofInt_toInt]

/-- The true difference of two words, kept to 16 bits, is their wrapping difference. -/
theorem ofInt_sub (a b : Word) : BitVec.ofInt 16 (a.toInt - b.toInt) = a - b := by
  rw [Int.sub_eq_add_neg, BitVec.ofInt_add, BitVec.ofInt_neg, BitVec.ofInt_toInt, BitVec.ofInt_toInt, BitVec.sub_eq_add_neg]

end Sys2Proof.Machine
end

