-- ==== Sys2Proof/Laws/Memory.lean ====
section
/-! SUPPORT. The laws of memory: reading after writing, the canonical form is kept, and nothing is listed outside installed
memory. -/

namespace Sys2Proof.Machine

theorem Memory.wf_nil : Memory.wf [] := by simp [Memory.wf]

theorem Memory.wf_tail {c : Host.Cell} {m : Memory} (h : Memory.wf (c :: m)) : Memory.wf m :=
  ⟨(List.pairwise_cons.mp h.1).2, fun d hd => h.2 d (List.mem_cons_of_mem _ hd)⟩

theorem Memory.wf_cons_iff {k : Nat} {u : Byte} {m : Memory} :
    Memory.wf ((k, u) :: m) ↔ (∀ c ∈ m, k < c.1) ∧ u ≠ Memory.unlisted ∧ Memory.wf m := by
  simp only [Memory.wf, List.pairwise_cons, List.forall_mem_cons]
  tauto

/-- A cell below every listed one is unlisted. -/
theorem Memory.readByte_below {m : Memory} {cell : Nat} (h : ∀ c ∈ m, cell < c.1) : m.readByte cell = Memory.unlisted := by
  cases m with
  | nil => rfl
  | cons c m => simp [Memory.readByte, h c List.mem_cons_self]

/-- A cell listed after a write was listed before, or is the one written. -/
theorem Memory.mem_writeByte {m : Memory} {cell : Nat} {v : Byte} {c : Host.Cell} (h : c ∈ m.writeByte cell v) :
    c ∈ m ∨ c.1 = cell := by
  induction m with
  | nil =>
    simp only [Memory.writeByte] at h
    split at h <;> simp_all
  | cons d m ih =>
    obtain ⟨k, u⟩ := d
    simp only [Memory.writeByte] at h
    split at h
    · split at h
      · exact .inl h
      · rcases List.mem_cons.mp h with rfl | h
        · exact .inr rfl
        · exact .inl h
    · split at h
      · split at h
        · exact .inl (List.mem_cons_of_mem _ h)
        · rcases List.mem_cons.mp h with rfl | h
          · exact .inr (by simp_all)
          · exact .inl (List.mem_cons_of_mem _ h)
      · rcases List.mem_cons.mp h with rfl | h
        · exact .inl List.mem_cons_self
        · rcases ih h with h | h
          · exact .inl (List.mem_cons_of_mem _ h)
          · exact .inr h

theorem Memory.wf_writeByte {m : Memory} (h : m.wf) (cell : Nat) (v : Byte) : (m.writeByte cell v).wf := by
  induction m with
  | nil =>
    simp only [Memory.writeByte]
    split
    · exact Memory.wf_nil
    · rename_i hv
      simpa [Memory.wf] using hv
  | cons d m ih =>
    obtain ⟨k, u⟩ := d
    obtain ⟨hk, hu, hm⟩ := Memory.wf_cons_iff.mp h
    simp only [Memory.writeByte]
    split
    · rename_i hlt
      split
      · exact h
      · rename_i hv
        refine Memory.wf_cons_iff.mpr ⟨?_, hv, h⟩
        intro c hc
        rcases List.mem_cons.mp hc with rfl | hc
        · exact hlt
        · exact Nat.lt_trans hlt (hk c hc)
    · split
      · split
        · exact hm
        · rename_i hv
          exact Memory.wf_cons_iff.mpr ⟨hk, hv, hm⟩
      · refine Memory.wf_cons_iff.mpr ⟨?_, hu, ih hm⟩
        intro c hc
        rcases Memory.mem_writeByte hc with hc | hc
        · exact hk c hc
        · omega

theorem Memory.readByte_writeByte_same {m : Memory} (h : m.wf) (cell : Nat) (v : Byte) :
    (m.writeByte cell v).readByte cell = v := by
  induction m with
  | nil =>
    simp only [Memory.writeByte]
    split <;> simp_all [Memory.readByte]
  | cons d m ih =>
    obtain ⟨k, u⟩ := d
    obtain ⟨hk, -, hm⟩ := Memory.wf_cons_iff.mp h
    simp only [Memory.writeByte]
    split
    · rename_i hlt
      split
      · simp_all [Memory.readByte]
      · simp [Memory.readByte]
    · split
      · rename_i heq
        subst heq
        split
        · rw [Memory.readByte_below hk]; simp_all
        · simp [Memory.readByte]
      · simp_all [Memory.readByte]

theorem Memory.readByte_writeByte_other {m : Memory} (h : m.wf) {cell other : Nat} (hne : other ≠ cell) (v : Byte) :
    (m.writeByte cell v).readByte other = m.readByte other := by
  induction m with
  | nil =>
    simp only [Memory.writeByte]
    split <;> simp [Memory.readByte, hne]
  | cons d m ih =>
    obtain ⟨k, u⟩ := d
    obtain ⟨hk, -, hm⟩ := Memory.wf_cons_iff.mp h
    simp only [Memory.writeByte]
    split
    · split
      · rfl
      · simp only [Memory.readByte, hne, if_false]
        split
        · rw [if_pos (by omega)]
        · rfl
    · split
      · rename_i heq
        subst heq
        split
        · simp only [Memory.readByte, hne, if_false]
          split
          · exact Memory.readByte_below fun c hc => by have := hk c hc; omega
          · rfl
        · simp [Memory.readByte, hne]
      · simp [Memory.readByte, ih hm]

theorem leftHalf_append_rightHalf (v : Word) : (leftHalf v ++ rightHalf v : Word) = v := by
  ext i
  simp only [leftHalf, rightHalf, BitVec.getElem_append, BitVec.getElem_extractLsb']
  split <;> simp_all

theorem Memory.wf_writeWord {m : Memory} (h : m.wf) (y : Addr) (v : Word) : (m.writeWord y v).wf :=
  Memory.wf_writeByte (Memory.wf_writeByte h _ _) _ _

/-- Every cell but the two of the word at y reads as before a store to y. -/
theorem Memory.readByte_writeWord_other {m : Memory} (h : m.wf) {y : Addr} {cell : Nat} (hl : cell ≠ leftCell y)
    (hr : cell ≠ leftCell y + 1) (v : Word) : (m.writeWord y v).readByte cell = m.readByte cell := by
  rw [Memory.writeWord, Memory.readByte_writeByte_other (Memory.wf_writeByte h _ _) hr,
    Memory.readByte_writeByte_other h hl]

theorem Memory.readWord_writeWord_same {m : Memory} (h : m.wf) (y : Addr) (v : Word) : (m.writeWord y v).readWord y = v := by
  rw [Memory.readWord, Memory.writeWord, Memory.readByte_writeByte_same (Memory.wf_writeByte h _ _),
    Memory.readByte_writeByte_other (Memory.wf_writeByte h _ _) (by omega), Memory.readByte_writeByte_same h,
    leftHalf_append_rightHalf]

theorem Memory.readWord_writeWord_other {m : Memory} (h : m.wf) {y z : Addr} (hne : z ≠ y) (v : Word) :
    (m.writeWord y v).readWord z = m.readWord z := by
  have hz : z.toNat ≠ y.toNat := fun e => hne (BitVec.eq_of_toNat_eq e)
  simp only [Memory.readWord]
  rw [Memory.readByte_writeWord_other h (by simp only [leftCell]; omega) (by simp only [leftCell]; omega),
    Memory.readByte_writeWord_other h (by simp only [leftCell]; omega) (by simp only [leftCell]; omega)]

/-- A store inside installed memory lists nothing outside it. -/
theorem Memory.installed_writeWord {m : Memory} {n : Nat} (h : ∀ c ∈ m, c.1 < 2 * n) {y : Addr} (hy : y.toNat < n) (v : Word) :
    ∀ c ∈ m.writeWord y v, c.1 < 2 * n := by
  intro c hc
  rcases Memory.mem_writeByte hc with hc | hc
  · rcases Memory.mem_writeByte hc with hc | hc
    · exact h c hc
    · simp only [leftCell] at hc; omega
  · simp only [leftCell] at hc; omega

/-- What is read is listed, or is zero. -/
theorem Memory.readByte_listed {m : Memory} {cell : Nat} (h : m.readByte cell ≠ Memory.unlisted) : ∃ c ∈ m, c.1 = cell := by
  induction m with
  | nil => exact absurd rfl h
  | cons d m ih =>
    obtain ⟨k, u⟩ := d
    simp only [Memory.readByte] at h
    split at h
    · exact absurd rfl h
    · split at h
      · rename_i heq
        exact ⟨(k, u), List.mem_cons_self, heq.symm⟩
      · obtain ⟨c, hc, e⟩ := ih h
        exact ⟨c, List.mem_cons_of_mem _ hc, e⟩

theorem State.withFetchWord_mem_wf {s : State} (h : s.mem.wf) (nbits w : Nat) : (s.withFetchWord nbits w).mem.wf :=
  Memory.wf_writeWord h _ _

theorem State.reset_mem_wf : State.reset.mem.wf := Memory.wf_nil

end Sys2Proof.Machine
end

