-- ==== Sys2Proof/Laws/State.lean ====
section
/-! SUPPORT. What each register update leaves in each field of the state. -/

namespace Sys2Proof.Machine

variable (s : State)

@[simp] theorem State.setA_a (v : Word) : (s.setA v).a = v := rfl
@[simp] theorem State.setA_b (v : Word) : (s.setA v).b = s.b := rfl
@[simp] theorem State.setA_x (v : Word) : (s.setA v).x = s.x := rfl
@[simp] theorem State.setA_p (v : Word) : (s.setA v).p = s.p := rfl
@[simp] theorem State.setA_c (v : Word) : (s.setA v).c = s.c := rfl
@[simp] theorem State.setA_dp (v : Word) : (s.setA v).dp = s.dp := rfl
@[simp] theorem State.setA_extmd (v : Word) : (s.setA v).extmd = s.extmd := rfl
@[simp] theorem State.setA_sc (v : Word) : (s.setA v).sc = s.sc := rfl
@[simp] theorem State.setA_pi (v : Word) : (s.setA v).pi = s.pi := rfl
@[simp] theorem State.setA_piDelay (v : Word) : (s.setA v).piDelay = s.piDelay := rfl
@[simp] theorem State.setA_halt (v : Word) : (s.setA v).halt = s.halt := rfl
@[simp] theorem State.setA_mem (v : Word) : (s.setA v).mem = s.mem := rfl
@[simp] theorem State.setA_memSize (v : Word) : (s.setA v).memSize = s.memSize := rfl
@[simp] theorem State.setA_switches (v : Word) : (s.setA v).switches = s.switches := rfl
@[simp] theorem State.setA_dev (v : Word) : (s.setA v).dev = s.dev := rfl
@[simp] theorem State.setA_operator (v : Word) : (s.setA v).operator = s.operator := rfl
@[simp] theorem State.setA_draws (v : Word) : (s.setA v).draws = s.draws := rfl

@[simp] theorem State.setB_a (v : Word) : (s.setB v).a = s.a := rfl
@[simp] theorem State.setB_b (v : Word) : (s.setB v).b = v := rfl
@[simp] theorem State.setB_x (v : Word) : (s.setB v).x = s.x := rfl
@[simp] theorem State.setB_p (v : Word) : (s.setB v).p = s.p := rfl
@[simp] theorem State.setB_c (v : Word) : (s.setB v).c = s.c := rfl
@[simp] theorem State.setB_dp (v : Word) : (s.setB v).dp = s.dp := rfl
@[simp] theorem State.setB_extmd (v : Word) : (s.setB v).extmd = s.extmd := rfl
@[simp] theorem State.setB_sc (v : Word) : (s.setB v).sc = s.sc := rfl
@[simp] theorem State.setB_pi (v : Word) : (s.setB v).pi = s.pi := rfl
@[simp] theorem State.setB_piDelay (v : Word) : (s.setB v).piDelay = s.piDelay := rfl
@[simp] theorem State.setB_halt (v : Word) : (s.setB v).halt = s.halt := rfl
@[simp] theorem State.setB_mem (v : Word) : (s.setB v).mem = s.mem := rfl
@[simp] theorem State.setB_memSize (v : Word) : (s.setB v).memSize = s.memSize := rfl
@[simp] theorem State.setB_switches (v : Word) : (s.setB v).switches = s.switches := rfl
@[simp] theorem State.setB_dev (v : Word) : (s.setB v).dev = s.dev := rfl
@[simp] theorem State.setB_operator (v : Word) : (s.setB v).operator = s.operator := rfl
@[simp] theorem State.setB_draws (v : Word) : (s.setB v).draws = s.draws := rfl

@[simp] theorem State.setX_a (v : Word) : (s.setX v).a = s.a := rfl
@[simp] theorem State.setX_b (v : Word) : (s.setX v).b = s.b := rfl
@[simp] theorem State.setX_x (v : Word) : (s.setX v).x = v := rfl
@[simp] theorem State.setX_p (v : Word) : (s.setX v).p = s.p := rfl
@[simp] theorem State.setX_c (v : Word) : (s.setX v).c = s.c := rfl
@[simp] theorem State.setX_dp (v : Word) : (s.setX v).dp = s.dp := rfl
@[simp] theorem State.setX_extmd (v : Word) : (s.setX v).extmd = s.extmd := rfl
@[simp] theorem State.setX_sc (v : Word) : (s.setX v).sc = s.sc := rfl
@[simp] theorem State.setX_pi (v : Word) : (s.setX v).pi = s.pi := rfl
@[simp] theorem State.setX_piDelay (v : Word) : (s.setX v).piDelay = s.piDelay := rfl
@[simp] theorem State.setX_halt (v : Word) : (s.setX v).halt = s.halt := rfl
@[simp] theorem State.setX_mem (v : Word) : (s.setX v).mem = s.mem := rfl
@[simp] theorem State.setX_memSize (v : Word) : (s.setX v).memSize = s.memSize := rfl
@[simp] theorem State.setX_switches (v : Word) : (s.setX v).switches = s.switches := rfl
@[simp] theorem State.setX_dev (v : Word) : (s.setX v).dev = s.dev := rfl
@[simp] theorem State.setX_operator (v : Word) : (s.setX v).operator = s.operator := rfl
@[simp] theorem State.setX_draws (v : Word) : (s.setX v).draws = s.draws := rfl

@[simp] theorem State.setP_a (y : Addr) : (s.setP y).a = s.a := rfl
@[simp] theorem State.setP_b (y : Addr) : (s.setP y).b = s.b := rfl
@[simp] theorem State.setP_x (y : Addr) : (s.setP y).x = s.x := rfl
@[simp] theorem State.setP_p (y : Addr) : (s.setP y).p = y := rfl
@[simp] theorem State.setP_c (y : Addr) : (s.setP y).c = s.c := rfl
@[simp] theorem State.setP_dp (y : Addr) : (s.setP y).dp = s.dp := rfl
@[simp] theorem State.setP_extmd (y : Addr) : (s.setP y).extmd = s.extmd := rfl
@[simp] theorem State.setP_sc (y : Addr) : (s.setP y).sc = s.sc := rfl
@[simp] theorem State.setP_pi (y : Addr) : (s.setP y).pi = s.pi := rfl
@[simp] theorem State.setP_piDelay (y : Addr) : (s.setP y).piDelay = s.piDelay := rfl
@[simp] theorem State.setP_halt (y : Addr) : (s.setP y).halt = s.halt := rfl
@[simp] theorem State.setP_mem (y : Addr) : (s.setP y).mem = s.mem := rfl
@[simp] theorem State.setP_memSize (y : Addr) : (s.setP y).memSize = s.memSize := rfl
@[simp] theorem State.setP_switches (y : Addr) : (s.setP y).switches = s.switches := rfl
@[simp] theorem State.setP_dev (y : Addr) : (s.setP y).dev = s.dev := rfl
@[simp] theorem State.setP_operator (y : Addr) : (s.setP y).operator = s.operator := rfl
@[simp] theorem State.setP_draws (y : Addr) : (s.setP y).draws = s.draws := rfl

@[simp] theorem State.setC_a (v : Bool) : (s.setC v).a = s.a := rfl
@[simp] theorem State.setC_b (v : Bool) : (s.setC v).b = s.b := rfl
@[simp] theorem State.setC_x (v : Bool) : (s.setC v).x = s.x := rfl
@[simp] theorem State.setC_p (v : Bool) : (s.setC v).p = s.p := rfl
@[simp] theorem State.setC_c (v : Bool) : (s.setC v).c = v := rfl
@[simp] theorem State.setC_dp (v : Bool) : (s.setC v).dp = s.dp := rfl
@[simp] theorem State.setC_extmd (v : Bool) : (s.setC v).extmd = s.extmd := rfl
@[simp] theorem State.setC_sc (v : Bool) : (s.setC v).sc = s.sc := rfl
@[simp] theorem State.setC_pi (v : Bool) : (s.setC v).pi = s.pi := rfl
@[simp] theorem State.setC_piDelay (v : Bool) : (s.setC v).piDelay = s.piDelay := rfl
@[simp] theorem State.setC_halt (v : Bool) : (s.setC v).halt = s.halt := rfl
@[simp] theorem State.setC_mem (v : Bool) : (s.setC v).mem = s.mem := rfl
@[simp] theorem State.setC_memSize (v : Bool) : (s.setC v).memSize = s.memSize := rfl
@[simp] theorem State.setC_switches (v : Bool) : (s.setC v).switches = s.switches := rfl
@[simp] theorem State.setC_dev (v : Bool) : (s.setC v).dev = s.dev := rfl
@[simp] theorem State.setC_operator (v : Bool) : (s.setC v).operator = s.operator := rfl
@[simp] theorem State.setC_draws (v : Bool) : (s.setC v).draws = s.draws := rfl

@[simp] theorem State.setKeys_a (c dp extmd : Bool) (sc : BitVec 5) : (s.setKeys c dp extmd sc).a = s.a := rfl
@[simp] theorem State.setKeys_b (c dp extmd : Bool) (sc : BitVec 5) : (s.setKeys c dp extmd sc).b = s.b := rfl
@[simp] theorem State.setKeys_x (c dp extmd : Bool) (sc : BitVec 5) : (s.setKeys c dp extmd sc).x = s.x := rfl
@[simp] theorem State.setKeys_p (c dp extmd : Bool) (sc : BitVec 5) : (s.setKeys c dp extmd sc).p = s.p := rfl
@[simp] theorem State.setKeys_c (c dp extmd : Bool) (sc : BitVec 5) : (s.setKeys c dp extmd sc).c = c := rfl
@[simp] theorem State.setKeys_dp (c dp extmd : Bool) (sc : BitVec 5) : (s.setKeys c dp extmd sc).dp = dp := rfl
@[simp] theorem State.setKeys_extmd (c dp extmd : Bool) (sc : BitVec 5) : (s.setKeys c dp extmd sc).extmd = extmd := rfl
@[simp] theorem State.setKeys_sc (c dp extmd : Bool) (sc : BitVec 5) : (s.setKeys c dp extmd sc).sc = sc := rfl
@[simp] theorem State.setKeys_pi (c dp extmd : Bool) (sc : BitVec 5) : (s.setKeys c dp extmd sc).pi = s.pi := rfl
@[simp] theorem State.setKeys_piDelay (c dp extmd : Bool) (sc : BitVec 5) : (s.setKeys c dp extmd sc).piDelay = s.piDelay := rfl
@[simp] theorem State.setKeys_halt (c dp extmd : Bool) (sc : BitVec 5) : (s.setKeys c dp extmd sc).halt = s.halt := rfl
@[simp] theorem State.setKeys_mem (c dp extmd : Bool) (sc : BitVec 5) : (s.setKeys c dp extmd sc).mem = s.mem := rfl
@[simp] theorem State.setKeys_memSize (c dp extmd : Bool) (sc : BitVec 5) : (s.setKeys c dp extmd sc).memSize = s.memSize := rfl
@[simp] theorem State.setKeys_switches (c dp extmd : Bool) (sc : BitVec 5) : (s.setKeys c dp extmd sc).switches = s.switches := rfl
@[simp] theorem State.setKeys_dev (c dp extmd : Bool) (sc : BitVec 5) : (s.setKeys c dp extmd sc).dev = s.dev := rfl
@[simp] theorem State.setKeys_operator (c dp extmd : Bool) (sc : BitVec 5) : (s.setKeys c dp extmd sc).operator = s.operator := rfl
@[simp] theorem State.setKeys_draws (c dp extmd : Bool) (sc : BitVec 5) : (s.setKeys c dp extmd sc).draws = s.draws := rfl

@[simp] theorem State.drawShiftCount_a : s.drawShiftCount.a = s.a := rfl
@[simp] theorem State.drawShiftCount_b : s.drawShiftCount.b = s.b := rfl
@[simp] theorem State.drawShiftCount_x : s.drawShiftCount.x = s.x := rfl
@[simp] theorem State.drawShiftCount_p : s.drawShiftCount.p = s.p := rfl
@[simp] theorem State.drawShiftCount_c : s.drawShiftCount.c = s.c := rfl
@[simp] theorem State.drawShiftCount_dp : s.drawShiftCount.dp = s.dp := rfl
@[simp] theorem State.drawShiftCount_extmd : s.drawShiftCount.extmd = s.extmd := rfl
@[simp] theorem State.drawShiftCount_sc : s.drawShiftCount.sc = Config.freeShiftCount s.draws := rfl
@[simp] theorem State.drawShiftCount_pi : s.drawShiftCount.pi = s.pi := rfl
@[simp] theorem State.drawShiftCount_piDelay : s.drawShiftCount.piDelay = s.piDelay := rfl
@[simp] theorem State.drawShiftCount_halt : s.drawShiftCount.halt = s.halt := rfl
@[simp] theorem State.drawShiftCount_mem : s.drawShiftCount.mem = s.mem := rfl
@[simp] theorem State.drawShiftCount_memSize : s.drawShiftCount.memSize = s.memSize := rfl
@[simp] theorem State.drawShiftCount_switches : s.drawShiftCount.switches = s.switches := rfl
@[simp] theorem State.drawShiftCount_dev : s.drawShiftCount.dev = s.dev := rfl
@[simp] theorem State.drawShiftCount_operator : s.drawShiftCount.operator = s.operator := rfl
@[simp] theorem State.drawShiftCount_draws : s.drawShiftCount.draws = s.draws + 1 := rfl

@[simp] theorem State.countDraw_a : s.countDraw.a = s.a := rfl
@[simp] theorem State.countDraw_b : s.countDraw.b = s.b := rfl
@[simp] theorem State.countDraw_x : s.countDraw.x = s.x := rfl
@[simp] theorem State.countDraw_p : s.countDraw.p = s.p := rfl
@[simp] theorem State.countDraw_c : s.countDraw.c = s.c := rfl
@[simp] theorem State.countDraw_dp : s.countDraw.dp = s.dp := rfl
@[simp] theorem State.countDraw_extmd : s.countDraw.extmd = s.extmd := rfl
@[simp] theorem State.countDraw_sc : s.countDraw.sc = s.sc := rfl
@[simp] theorem State.countDraw_pi : s.countDraw.pi = s.pi := rfl
@[simp] theorem State.countDraw_piDelay : s.countDraw.piDelay = s.piDelay := rfl
@[simp] theorem State.countDraw_halt : s.countDraw.halt = s.halt := rfl
@[simp] theorem State.countDraw_mem : s.countDraw.mem = s.mem := rfl
@[simp] theorem State.countDraw_memSize : s.countDraw.memSize = s.memSize := rfl
@[simp] theorem State.countDraw_switches : s.countDraw.switches = s.switches := rfl
@[simp] theorem State.countDraw_dev : s.countDraw.dev = s.dev := rfl
@[simp] theorem State.countDraw_operator : s.countDraw.operator = s.operator := rfl
@[simp] theorem State.countDraw_draws : s.countDraw.draws = s.draws + 1 := rfl

@[simp] theorem State.setPI_a (v : Bool) : (s.setPI v).a = s.a := rfl
@[simp] theorem State.setPI_b (v : Bool) : (s.setPI v).b = s.b := rfl
@[simp] theorem State.setPI_x (v : Bool) : (s.setPI v).x = s.x := rfl
@[simp] theorem State.setPI_p (v : Bool) : (s.setPI v).p = s.p := rfl
@[simp] theorem State.setPI_c (v : Bool) : (s.setPI v).c = s.c := rfl
@[simp] theorem State.setPI_dp (v : Bool) : (s.setPI v).dp = s.dp := rfl
@[simp] theorem State.setPI_extmd (v : Bool) : (s.setPI v).extmd = s.extmd := rfl
@[simp] theorem State.setPI_sc (v : Bool) : (s.setPI v).sc = s.sc := rfl
@[simp] theorem State.setPI_pi (v : Bool) : (s.setPI v).pi = v := rfl
@[simp] theorem State.setPI_piDelay (v : Bool) : (s.setPI v).piDelay = s.piDelay := rfl
@[simp] theorem State.setPI_halt (v : Bool) : (s.setPI v).halt = s.halt := rfl
@[simp] theorem State.setPI_mem (v : Bool) : (s.setPI v).mem = s.mem := rfl
@[simp] theorem State.setPI_memSize (v : Bool) : (s.setPI v).memSize = s.memSize := rfl
@[simp] theorem State.setPI_switches (v : Bool) : (s.setPI v).switches = s.switches := rfl
@[simp] theorem State.setPI_dev (v : Bool) : (s.setPI v).dev = s.dev := rfl
@[simp] theorem State.setPI_operator (v : Bool) : (s.setPI v).operator = s.operator := rfl
@[simp] theorem State.setPI_draws (v : Bool) : (s.setPI v).draws = s.draws := rfl

@[simp] theorem State.setPIDelay_a (v : Bool) : (s.setPIDelay v).a = s.a := rfl
@[simp] theorem State.setPIDelay_b (v : Bool) : (s.setPIDelay v).b = s.b := rfl
@[simp] theorem State.setPIDelay_x (v : Bool) : (s.setPIDelay v).x = s.x := rfl
@[simp] theorem State.setPIDelay_p (v : Bool) : (s.setPIDelay v).p = s.p := rfl
@[simp] theorem State.setPIDelay_c (v : Bool) : (s.setPIDelay v).c = s.c := rfl
@[simp] theorem State.setPIDelay_dp (v : Bool) : (s.setPIDelay v).dp = s.dp := rfl
@[simp] theorem State.setPIDelay_extmd (v : Bool) : (s.setPIDelay v).extmd = s.extmd := rfl
@[simp] theorem State.setPIDelay_sc (v : Bool) : (s.setPIDelay v).sc = s.sc := rfl
@[simp] theorem State.setPIDelay_pi (v : Bool) : (s.setPIDelay v).pi = s.pi := rfl
@[simp] theorem State.setPIDelay_piDelay (v : Bool) : (s.setPIDelay v).piDelay = v := rfl
@[simp] theorem State.setPIDelay_halt (v : Bool) : (s.setPIDelay v).halt = s.halt := rfl
@[simp] theorem State.setPIDelay_mem (v : Bool) : (s.setPIDelay v).mem = s.mem := rfl
@[simp] theorem State.setPIDelay_memSize (v : Bool) : (s.setPIDelay v).memSize = s.memSize := rfl
@[simp] theorem State.setPIDelay_switches (v : Bool) : (s.setPIDelay v).switches = s.switches := rfl
@[simp] theorem State.setPIDelay_dev (v : Bool) : (s.setPIDelay v).dev = s.dev := rfl
@[simp] theorem State.setPIDelay_operator (v : Bool) : (s.setPIDelay v).operator = s.operator := rfl
@[simp] theorem State.setPIDelay_draws (v : Bool) : (s.setPIDelay v).draws = s.draws := rfl

@[simp] theorem State.setHalt_a (v : Bool) : (s.setHalt v).a = s.a := rfl
@[simp] theorem State.setHalt_b (v : Bool) : (s.setHalt v).b = s.b := rfl
@[simp] theorem State.setHalt_x (v : Bool) : (s.setHalt v).x = s.x := rfl
@[simp] theorem State.setHalt_p (v : Bool) : (s.setHalt v).p = s.p := rfl
@[simp] theorem State.setHalt_c (v : Bool) : (s.setHalt v).c = s.c := rfl
@[simp] theorem State.setHalt_dp (v : Bool) : (s.setHalt v).dp = s.dp := rfl
@[simp] theorem State.setHalt_extmd (v : Bool) : (s.setHalt v).extmd = s.extmd := rfl
@[simp] theorem State.setHalt_sc (v : Bool) : (s.setHalt v).sc = s.sc := rfl
@[simp] theorem State.setHalt_pi (v : Bool) : (s.setHalt v).pi = s.pi := rfl
@[simp] theorem State.setHalt_piDelay (v : Bool) : (s.setHalt v).piDelay = s.piDelay := rfl
@[simp] theorem State.setHalt_halt (v : Bool) : (s.setHalt v).halt = v := rfl
@[simp] theorem State.setHalt_mem (v : Bool) : (s.setHalt v).mem = s.mem := rfl
@[simp] theorem State.setHalt_memSize (v : Bool) : (s.setHalt v).memSize = s.memSize := rfl
@[simp] theorem State.setHalt_switches (v : Bool) : (s.setHalt v).switches = s.switches := rfl
@[simp] theorem State.setHalt_dev (v : Bool) : (s.setHalt v).dev = s.dev := rfl
@[simp] theorem State.setHalt_operator (v : Bool) : (s.setHalt v).operator = s.operator := rfl
@[simp] theorem State.setHalt_draws (v : Bool) : (s.setHalt v).draws = s.draws := rfl

@[simp] theorem State.setMem_a (m : Memory) : (s.setMem m).a = s.a := rfl
@[simp] theorem State.setMem_b (m : Memory) : (s.setMem m).b = s.b := rfl
@[simp] theorem State.setMem_x (m : Memory) : (s.setMem m).x = s.x := rfl
@[simp] theorem State.setMem_p (m : Memory) : (s.setMem m).p = s.p := rfl
@[simp] theorem State.setMem_c (m : Memory) : (s.setMem m).c = s.c := rfl
@[simp] theorem State.setMem_dp (m : Memory) : (s.setMem m).dp = s.dp := rfl
@[simp] theorem State.setMem_extmd (m : Memory) : (s.setMem m).extmd = s.extmd := rfl
@[simp] theorem State.setMem_sc (m : Memory) : (s.setMem m).sc = s.sc := rfl
@[simp] theorem State.setMem_pi (m : Memory) : (s.setMem m).pi = s.pi := rfl
@[simp] theorem State.setMem_piDelay (m : Memory) : (s.setMem m).piDelay = s.piDelay := rfl
@[simp] theorem State.setMem_halt (m : Memory) : (s.setMem m).halt = s.halt := rfl
@[simp] theorem State.setMem_mem (m : Memory) : (s.setMem m).mem = m := rfl
@[simp] theorem State.setMem_memSize (m : Memory) : (s.setMem m).memSize = s.memSize := rfl
@[simp] theorem State.setMem_switches (m : Memory) : (s.setMem m).switches = s.switches := rfl
@[simp] theorem State.setMem_dev (m : Memory) : (s.setMem m).dev = s.dev := rfl
@[simp] theorem State.setMem_operator (m : Memory) : (s.setMem m).operator = s.operator := rfl
@[simp] theorem State.setMem_draws (m : Memory) : (s.setMem m).draws = s.draws := rfl

@[simp] theorem State.setDev_a (dv : DeviceEnv) : (s.setDev dv).a = s.a := rfl
@[simp] theorem State.setDev_b (dv : DeviceEnv) : (s.setDev dv).b = s.b := rfl
@[simp] theorem State.setDev_x (dv : DeviceEnv) : (s.setDev dv).x = s.x := rfl
@[simp] theorem State.setDev_p (dv : DeviceEnv) : (s.setDev dv).p = s.p := rfl
@[simp] theorem State.setDev_c (dv : DeviceEnv) : (s.setDev dv).c = s.c := rfl
@[simp] theorem State.setDev_dp (dv : DeviceEnv) : (s.setDev dv).dp = s.dp := rfl
@[simp] theorem State.setDev_extmd (dv : DeviceEnv) : (s.setDev dv).extmd = s.extmd := rfl
@[simp] theorem State.setDev_sc (dv : DeviceEnv) : (s.setDev dv).sc = s.sc := rfl
@[simp] theorem State.setDev_pi (dv : DeviceEnv) : (s.setDev dv).pi = s.pi := rfl
@[simp] theorem State.setDev_piDelay (dv : DeviceEnv) : (s.setDev dv).piDelay = s.piDelay := rfl
@[simp] theorem State.setDev_halt (dv : DeviceEnv) : (s.setDev dv).halt = s.halt := rfl
@[simp] theorem State.setDev_mem (dv : DeviceEnv) : (s.setDev dv).mem = s.mem := rfl
@[simp] theorem State.setDev_memSize (dv : DeviceEnv) : (s.setDev dv).memSize = s.memSize := rfl
@[simp] theorem State.setDev_switches (dv : DeviceEnv) : (s.setDev dv).switches = s.switches := rfl
@[simp] theorem State.setDev_dev (dv : DeviceEnv) : (s.setDev dv).dev = dv := rfl
@[simp] theorem State.setDev_operator (dv : DeviceEnv) : (s.setDev dv).operator = s.operator := rfl
@[simp] theorem State.setDev_draws (dv : DeviceEnv) : (s.setDev dv).draws = s.draws := rfl

@[simp] theorem State.skip_a (k : Addr) : (s.skip k).a = s.a := rfl
@[simp] theorem State.skip_b (k : Addr) : (s.skip k).b = s.b := rfl
@[simp] theorem State.skip_x (k : Addr) : (s.skip k).x = s.x := rfl
@[simp] theorem State.skip_p (k : Addr) : (s.skip k).p = s.p + k := rfl
@[simp] theorem State.skip_c (k : Addr) : (s.skip k).c = s.c := rfl
@[simp] theorem State.skip_dp (k : Addr) : (s.skip k).dp = s.dp := rfl
@[simp] theorem State.skip_extmd (k : Addr) : (s.skip k).extmd = s.extmd := rfl
@[simp] theorem State.skip_sc (k : Addr) : (s.skip k).sc = s.sc := rfl
@[simp] theorem State.skip_pi (k : Addr) : (s.skip k).pi = s.pi := rfl
@[simp] theorem State.skip_piDelay (k : Addr) : (s.skip k).piDelay = s.piDelay := rfl
@[simp] theorem State.skip_halt (k : Addr) : (s.skip k).halt = s.halt := rfl
@[simp] theorem State.skip_mem (k : Addr) : (s.skip k).mem = s.mem := rfl
@[simp] theorem State.skip_memSize (k : Addr) : (s.skip k).memSize = s.memSize := rfl
@[simp] theorem State.skip_switches (k : Addr) : (s.skip k).switches = s.switches := rfl
@[simp] theorem State.skip_dev (k : Addr) : (s.skip k).dev = s.dev := rfl
@[simp] theorem State.skip_operator (k : Addr) : (s.skip k).operator = s.operator := rfl
@[simp] theorem State.skip_draws (k : Addr) : (s.skip k).draws = s.draws := rfl

end Sys2Proof.Machine
end

