-- ==== Sys2Proof/Laws/Ops.lean ====
section
/-! SUPPORT. What each shared operation can do, said once: later proofs cite these and do not unfold the operations. -/

namespace Sys2Proof.Machine

variable {α β : Type} {s t : State}

/-! ## Sequencing -/

@[simp] theorem andThen_next (v : α) (f : α → Result β) : andThen (.next v) f = f v := rfl

@[simp] theorem andThen_fault (e : Fault) (f : α → Result β) : andThen (.fault e : Result α) f = .fault e := rfl

@[simp] theorem andThen_refused (e : Refusal) (f : α → Result β) : andThen (.refused e : Result α) f = .refused e := rfl

/-- A sequence answers a next value exactly when both parts do. -/
theorem andThen_eq_next {r : Result α} {f : α → Result β} {u : β} :
    andThen r f = .next u ↔ ∃ v, r = .next v ∧ f v = .next u := by
  cases r <;> simp [andThen]

/-- A sequence is refused exactly when its first part is, or the second part after it. -/
theorem andThen_eq_refused {r : Result α} {f : α → Result β} {why : Refusal} :
    andThen r f = .refused why ↔ r = .refused why ∨ ∃ v, r = .next v ∧ f v = .refused why := by
  cases r <;> simp [andThen]

/-! ## Memory access -/

theorem memRead_eq_next {y : Addr} {w : Word} :
    memRead s y = .next w ↔ y.toNat < s.memSize ∧ w = s.mem.readWord y := by
  unfold memRead
  split <;> simp_all [eq_comm]

theorem memRead_installed {y : Addr} (h : y.toNat < s.memSize) : memRead s y = .next (s.mem.readWord y) := by
  simp [memRead, h]

theorem memRead_outside {y : Addr} (h : ¬ y.toNat < s.memSize) : memRead s y = .refused .outsideInstalledMemory := by
  simp [memRead, h]

theorem memRead_eq_refused {y : Addr} {why : Refusal} :
    memRead s y = .refused why ↔ ¬ y.toNat < s.memSize ∧ why = .outsideInstalledMemory := by
  unfold memRead
  split <;> simp_all [eq_comm]

/-- The state after a store: the word, and X if it went to location '00000. -/
theorem memWrite_eq_next {y : Addr} {v : Word} :
    memWrite s y v = .next t ↔
      y.toNat < s.memSize ∧ t = { s with mem := s.mem.writeWord y v, x := if y = 0 then v else s.x } := by
  have stored : (if y = 0 then (s.setMem (s.mem.writeWord y v)).setX v else s.setMem (s.mem.writeWord y v)) =
      { s with mem := s.mem.writeWord y v, x := if y = 0 then v else s.x } := by
    split <;> rfl
  unfold memWrite
  split
  · rename_i h
    simp only [stored, Host.Outcome.next.injEq, h, true_and]
    exact eq_comm
  · simp_all

theorem memWrite_installed {y : Addr} (h : y.toNat < s.memSize) (v : Word) :
    memWrite s y v = .next { s with mem := s.mem.writeWord y v, x := if y = 0 then v else s.x } :=
  memWrite_eq_next.mpr ⟨h, rfl⟩

theorem memWrite_outside {y : Addr} (h : ¬ y.toNat < s.memSize) (v : Word) :
    memWrite s y v = .refused .outsideInstalledMemory := by
  simp [memWrite, h]

/-- What a store leaves in memory and X, for any state that agrees with it there. -/
theorem stored_of_writeWord {y : Addr} {v : Word} (h : s.mem.wf) (hm : t.mem = s.mem.writeWord y v)
    (hx : t.x = if y = 0 then v else s.x) : Stored s t y v := by
  refine ⟨?_, ?_, hx⟩
  · rw [hm]; exact Memory.readWord_writeWord_same h y v
  · intro cell hl hr; rw [hm]; exact Memory.readByte_writeWord_other h hl hr v

/-! ## Skips -/

theorem State.skipIf_eq (cond : Bool) : s.skipIf cond = { s with p := if cond then s.p + 1 else s.p } := by
  cases cond <;> rfl

/-! ## Indirect addressing -/

@[simp] theorem followIndirect_direct (fuel : Nat) (y : Addr) : followIndirect s fuel false y = .next y := by
  cases fuel <;> rfl

@[simp] theorem followIndirect_zero (y : Addr) : followIndirect s 0 true y = .fault .endlessIndirect := rfl

theorem followIndirect_succ (fuel : Nat) (y : Addr) :
    followIndirect s (fuel + 1) true y =
      andThen (memRead s y) fun w => followIndirect s fuel (bit1 w) (indexIf s (bit2 w) (addressField w)) := rfl

/-- The chain depends on memory, MEMSIZE and X alone. -/
theorem followIndirect_congr (hm : t.mem = s.mem) (hn : t.memSize = s.memSize) (hx : t.x = s.x) (fuel : Nat) (i : Bool) (y : Addr) :
    followIndirect t fuel i y = followIndirect s fuel i y := by
  induction fuel generalizing i y with
  | zero => cases i <;> rfl
  | succ fuel ih =>
    cases i with
    | false => rfl
    | true =>
      simp only [followIndirect_succ, memRead, hm, hn]
      split
      · simp [ih, indexIf, hx]
      · rfl

/-- A chain that is refused has come to an address word outside installed memory. -/
theorem chainLeaves_of_refused {fuel : Nat} {i : Bool} {y : Addr} {why : Refusal}
    (h : followIndirect s fuel i y = .refused why) : ChainLeaves s i y := by
  induction fuel generalizing i y with
  | zero => cases i <;> simp at h
  | succ fuel ih =>
    cases i with
    | false => simp at h
    | true =>
      rw [followIndirect_succ] at h
      rcases andThen_eq_refused.mp h with h | ⟨w, hw, h⟩
      · exact .outside y (memRead_eq_refused.mp h).1
      · obtain ⟨hn, rfl⟩ := memRead_eq_next.mp hw
        exact .hop y hn (ih h)

/-- More room does not change an answer. -/
theorem followIndirect_mono {fuel : Nat} {i : Bool} {y z : Addr} (h : followIndirect s fuel i y = .next z) (more : Nat) :
    followIndirect s (fuel + more) i y = .next z := by
  induction fuel generalizing i y with
  | zero =>
    cases i with
    | false => simpa using h
    | true => simp at h
  | succ fuel ih =>
    cases i with
    | false => simpa using h
    | true =>
      rw [followIndirect_succ] at h
      obtain ⟨w, hw, h⟩ := andThen_eq_next.mp h
      rw [show fuel + 1 + more = (fuel + more) + 1 by omega, followIndirect_succ, hw]
      exact ih h

/-- An address word that points to itself with I = 1 leads nowhere, however much room there is. -/
theorem followIndirect_selfPointing {y : Addr} (hn : y.toNat < s.memSize) (h1 : bit1 (s.mem.readWord y) = true)
    (hy : indexIf s (bit2 (s.mem.readWord y)) (addressField (s.mem.readWord y)) = y) (fuel : Nat) :
    followIndirect s fuel true y = .fault .endlessIndirect := by
  induction fuel with
  | zero => rfl
  | succ fuel ih => rw [followIndirect_succ, memRead_installed hn, andThen_next, h1, hy, ih]

/-! ## Linkage and the program interrupt -/

theorem storeLink_eq_next {y : Addr} :
    storeLink s y = .next t ↔
      y.toNat < s.memSize ∧
      t = { s with
            mem := s.mem.writeWord y ((s.mem.readWord y).extractLsb' 14 2 ++ s.p),
            x := if y = 0 then (s.mem.readWord y).extractLsb' 14 2 ++ s.p else s.x,
            p := y + 1 } := by
  simp only [storeLink, andThen_eq_next, memRead_eq_next, memWrite_eq_next]
  constructor
  · rintro ⟨w, ⟨h, rfl⟩, u, ⟨-, rfl⟩, hu⟩
    cases hu
    exact ⟨h, rfl⟩
  · rintro ⟨h, rfl⟩
    exact ⟨_, ⟨h, rfl⟩, _, ⟨h, rfl⟩, rfl⟩

theorem interruptEntry_eq_next :
    interruptEntry s = .next t ↔
      s.extmd = false ∧ ∃ y, followIndirect s chainFuel true intVector = .next y ∧ y.toNat < s.memSize ∧
      t = { s with
            mem := s.mem.writeWord y ((s.mem.readWord y).extractLsb' 14 2 ++ s.p),
            x := if y = 0 then (s.mem.readWord y).extractLsb' 14 2 ++ s.p else s.x,
            p := y + 1, pi := false, piDelay := false } := by
  unfold interruptEntry
  split
  · rename_i h
    simp [h]
  · rename_i h
    simp only [andThen_eq_next, storeLink_eq_next]
    constructor
    · rintro ⟨y, hy, u, ⟨hn, rfl⟩, hu⟩
      cases hu
      exact ⟨by simpa using h, y, hy, hn, rfl⟩
    · rintro ⟨-, y, hy, hn, rfl⟩
      exact ⟨y, hy, _, ⟨hn, rfl⟩, rfl⟩

/-! ## The instruction cycle -/

/-- What the surroundings' move can change: switches, devices, HALT (to 0), and the operator. -/
theorem tick_eq (s : State) :
    tick s = { s with
      switches := (tick s).switches, dev := s.dev.tick, halt := (tick s).halt, operator := (tick s).operator } := by
  unfold tick
  cases s.operator.next <;> rfl

@[simp] theorem tick_a (s : State) : (tick s).a = s.a := by rw [tick_eq]
@[simp] theorem tick_b (s : State) : (tick s).b = s.b := by rw [tick_eq]
@[simp] theorem tick_x (s : State) : (tick s).x = s.x := by rw [tick_eq]
@[simp] theorem tick_p (s : State) : (tick s).p = s.p := by rw [tick_eq]
@[simp] theorem tick_c (s : State) : (tick s).c = s.c := by rw [tick_eq]
@[simp] theorem tick_dp (s : State) : (tick s).dp = s.dp := by rw [tick_eq]
@[simp] theorem tick_extmd (s : State) : (tick s).extmd = s.extmd := by rw [tick_eq]
@[simp] theorem tick_sc (s : State) : (tick s).sc = s.sc := by rw [tick_eq]
@[simp] theorem tick_pi (s : State) : (tick s).pi = s.pi := by rw [tick_eq]
@[simp] theorem tick_piDelay (s : State) : (tick s).piDelay = s.piDelay := by rw [tick_eq]
@[simp] theorem tick_mem (s : State) : (tick s).mem = s.mem := by rw [tick_eq]
@[simp] theorem tick_memSize (s : State) : (tick s).memSize = s.memSize := by rw [tick_eq]
@[simp] theorem tick_draws (s : State) : (tick s).draws = s.draws := by rw [tick_eq]
@[simp] theorem tick_dev (s : State) : (tick s).dev = s.dev.tick := by rw [tick_eq]

theorem tick_running (h : s.halt = false) : (tick s).halt = false := by
  unfold tick
  split <;> simp [h]

theorem idle_eq_next : idle s = .next t ↔ s.operator.next ≠ none ∧ t = tick s := by
  unfold idle
  cases s.operator.next
  · simp
  · simp [eq_comm (a := t)]

theorem fetchDecode_eq_next {i : Instr} :
    fetchDecode s = .next i ↔ s.p.toNat < s.memSize ∧ decode (s.mem.readWord s.p) = .ok i := by
  simp only [fetchDecode, andThen_eq_next, memRead_eq_next]
  constructor
  · rintro ⟨w, ⟨h, rfl⟩, hi⟩
    split at hi <;> simp_all
  · rintro ⟨h, hi⟩
    exact ⟨_, ⟨h, rfl⟩, by simp [hi]⟩

theorem complete_eq (i : Instr) (t : State) :
    complete i t = { t with piDelay := if i = .enb then t.piDelay else false } := by
  unfold complete
  split <;> rfl

/-- Everything a step that answers a next state can have done. -/
theorem step_eq_next :
    step s = .next t ↔
      (s.halt = true ∧ s.operator.next ≠ none ∧ t = tick s) ∨
      (s.halt = false ∧ interruptRecognised (tick s) = true ∧ interruptEntry (tick s) = .next t) ∨
      (s.halt = false ∧ interruptRecognised (tick s) = false ∧
        ∃ i u, fetchDecode (tick s) = .next i ∧ exec i (advance (tick s)) = .next u ∧ t = complete i u) := by
  unfold step
  split
  · rename_i h
    simp [h, idle_eq_next]
  · rename_i h
    split
    · rename_i hi
      simp_all
    · rename_i hi
      simp_all only [andThen_eq_next, Host.Outcome.next.injEq]
      simp only [Bool.not_eq_true] at h hi
      simp [eq_comm]

end Sys2Proof.Machine
end

