-- ==== Sys2Proof/Laws/Operands.lean ====
section
/-! SUPPORT. What the operand forms answer. -/

namespace Sys2Proof.Machine

variable {s : State} {m : MemRef}

theorem keysAllowMemRef_eq_next {u : Unit} : keysAllowMemRef s = .next u ↔ s.dp = false ∧ s.extmd = false := by
  unfold keysAllowMemRef
  split
  · simp_all
  · split <;> simp_all

theorem operandAddress_eq_next {y : Addr} :
    operandAddress s m = .next y ↔ s.dp = false ∧ s.extmd = false ∧ effectiveAddress s m = .next y := by
  simp [operandAddress, andThen_eq_next, keysAllowMemRef_eq_next, and_assoc]

theorem operandWord_eq_next {w : Word} :
    operandWord s m = .next w ↔ s.dp = false ∧ s.extmd = false ∧
      ∃ y, effectiveAddress s m = .next y ∧ y.toNat < s.memSize ∧ w = s.mem.readWord y := by
  simp only [operandWord, andThen_eq_next, operandAddress_eq_next, memRead_eq_next]
  constructor
  · rintro ⟨y, ⟨hd, he, hy⟩, hn, hw⟩
    exact ⟨hd, he, y, hy, hn, hw⟩
  · rintro ⟨hd, he, y, hy, hn, hw⟩
    exact ⟨y, ⟨hd, he, hy⟩, hn, hw⟩

theorem operandAddress_of_keys (hd : s.dp = false) (he : s.extmd = false) : operandAddress s m = effectiveAddress s m := by
  simp [operandAddress, keysAllowMemRef, hd, he]

theorem operandAddress_dp (hd : s.dp = true) : operandAddress s m = .refused .dpModeSet := by
  simp [operandAddress, keysAllowMemRef, hd]

theorem operandAddress_extmd (hd : s.dp = false) (he : s.extmd = true) : operandAddress s m = .refused .extmdSet := by
  simp [operandAddress, keysAllowMemRef, hd, he]

/-- An operand that addresses the installed word at y is at y. -/
theorem operandAddress_of_addresses {y : Addr} (h : Addresses s m y) : operandAddress s m = .next y :=
  operandAddress_eq_next.mpr ⟨h.1, h.2.1, h.2.2.1⟩

/-- An operand that addresses the installed word at y reads it. -/
theorem operandWord_of_addresses {y : Addr} (h : Addresses s m y) : operandWord s m = .next (s.mem.readWord y) :=
  operandWord_eq_next.mpr ⟨h.1, h.2.1, y, h.2.2.1, h.2.2.2, rfl⟩

/-- The direct form always has an address. -/
@[simp] theorem effectiveAddress_direct (t o : Bool) (d : BitVec 9) :
    effectiveAddress s ⟨false, t, o, d⟩ = .next (indexIf s t (sectorAddress s o d)) := by
  simp [effectiveAddress]

/-- One address word more: it must be in installed memory. -/
theorem effectiveAddress_indirect (t o : Bool) (d : BitVec 9)
    (h : (indexIf s t (sectorAddress s o d)).toNat < s.memSize) :
    effectiveAddress s ⟨true, t, o, d⟩ =
      followIndirect s 16383 (bit1 (s.mem.readWord (indexIf s t (sectorAddress s o d))))
        (indexIf s (bit2 (s.mem.readWord (indexIf s t (sectorAddress s o d))))
          (addressField (s.mem.readWord (indexIf s t (sectorAddress s o d))))) := by
  rw [effectiveAddress, chainFuel, followIndirect_succ, memRead_installed h, andThen_next]

end Sys2Proof.Machine
end

