-- ==== Sys2Proof/Laws/PerInstr.lean ====
section
/-! SUPPORT. One lemma per instruction: the word the encoder writes is accepted by a row of the opcode table that builds the
instruction back. -/

namespace Sys2Proof.Laws

/-- A row of the table accepts the word of i and builds i from it. -/
def RowAccepts.Statement (i : Instr) : Prop :=
  ∃ r ∈ opcodeTable, r.accepts (encode i) = true ∧ r.build (encode i) = i

theorem RowAccepts.of_row {i : Instr} (r : Row) (hr : r ∈ opcodeTable) (ha : encode i &&& r.mask = r.pattern)
    (hb : r.build (encode i) = i) : RowAccepts.Statement i :=
  ⟨r, hr, by simpa [Row.accepts] using ha, hb⟩

theorem RowAccepts.hlt : Statement .hlt :=
  of_row (genericRow "HLT" 0o000000 .hlt) (by simp [opcodeTable, genericSkipRows]) (by decide) rfl

theorem RowAccepts.ink : Statement .ink :=
  of_row (genericRow "INK" 0o000043 .ink) (by simp [opcodeTable, genericSkipRows]) (by decide) rfl

theorem RowAccepts.iab : Statement .iab :=
  of_row (genericRow "IAB" 0o000201 .iab) (by simp [opcodeTable, genericSkipRows]) (by decide) rfl

theorem RowAccepts.enb : Statement .enb :=
  of_row (genericRow "ENB" 0o000401 .enb) (by simp [opcodeTable, genericSkipRows]) (by decide) rfl

theorem RowAccepts.inh : Statement .inh :=
  of_row (genericRow "INH" 0o001001 .inh) (by simp [opcodeTable, genericSkipRows]) (by decide) rfl

theorem RowAccepts.skp : Statement .skp :=
  of_row (genericRow "SKP" 0o100000 .skp) (by simp [opcodeTable, genericSkipRows]) (by decide) rfl

theorem RowAccepts.src : Statement .src :=
  of_row (genericRow "SRC" 0o100001 .src) (by simp [opcodeTable, genericSkipRows]) (by decide) rfl

theorem RowAccepts.sr4 : Statement .sr4 :=
  of_row (genericRow "SR4" 0o100002 .sr4) (by simp [opcodeTable, genericSkipRows]) (by decide) rfl

theorem RowAccepts.sr3 : Statement .sr3 :=
  of_row (genericRow "SR3" 0o100004 .sr3) (by simp [opcodeTable, genericSkipRows]) (by decide) rfl

theorem RowAccepts.sr2 : Statement .sr2 :=
  of_row (genericRow "SR2" 0o100010 .sr2) (by simp [opcodeTable, genericSkipRows]) (by decide) rfl

theorem RowAccepts.sr1 : Statement .sr1 :=
  of_row (genericRow "SR1" 0o100020 .sr1) (by simp [opcodeTable, genericSkipRows]) (by decide) rfl

theorem RowAccepts.ssr : Statement .ssr :=
  of_row (genericRow "SSR" 0o100036 .ssr) (by simp [opcodeTable, genericSkipRows]) (by decide) rfl

theorem RowAccepts.sze : Statement .sze :=
  of_row (genericRow "SZE" 0o100040 .sze) (by simp [opcodeTable, genericSkipRows]) (by decide) rfl

theorem RowAccepts.slz : Statement .slz :=
  of_row (genericRow "SLZ" 0o100100 .slz) (by simp [opcodeTable, genericSkipRows]) (by decide) rfl

theorem RowAccepts.spl : Statement .spl :=
  of_row (genericRow "SPL" 0o100400 .spl) (by simp [opcodeTable, genericSkipRows]) (by decide) rfl

theorem RowAccepts.nop : Statement .nop :=
  of_row (genericRow "NOP" 0o101000 .nop) (by simp [opcodeTable, genericSkipRows]) (by decide) rfl

theorem RowAccepts.ssc : Statement .ssc :=
  of_row (genericRow "SSC" 0o101001 .ssc) (by simp [opcodeTable, genericSkipRows]) (by decide) rfl

theorem RowAccepts.ss4 : Statement .ss4 :=
  of_row (genericRow "SS4" 0o101002 .ss4) (by simp [opcodeTable, genericSkipRows]) (by decide) rfl

theorem RowAccepts.ss3 : Statement .ss3 :=
  of_row (genericRow "SS3" 0o101004 .ss3) (by simp [opcodeTable, genericSkipRows]) (by decide) rfl

theorem RowAccepts.ss2 : Statement .ss2 :=
  of_row (genericRow "SS2" 0o101010 .ss2) (by simp [opcodeTable, genericSkipRows]) (by decide) rfl

theorem RowAccepts.ss1 : Statement .ss1 :=
  of_row (genericRow "SS1" 0o101020 .ss1) (by simp [opcodeTable, genericSkipRows]) (by decide) rfl

theorem RowAccepts.sss : Statement .sss :=
  of_row (genericRow "SSS" 0o101036 .sss) (by simp [opcodeTable, genericSkipRows]) (by decide) rfl

theorem RowAccepts.snz : Statement .snz :=
  of_row (genericRow "SNZ" 0o101040 .snz) (by simp [opcodeTable, genericSkipRows]) (by decide) rfl

theorem RowAccepts.sln : Statement .sln :=
  of_row (genericRow "SLN" 0o101100 .sln) (by simp [opcodeTable, genericSkipRows]) (by decide) rfl

theorem RowAccepts.smi : Statement .smi :=
  of_row (genericRow "SMI" 0o101400 .smi) (by simp [opcodeTable, genericSkipRows]) (by decide) rfl

theorem RowAccepts.chs : Statement .chs :=
  of_row (genericRow "CHS" 0o140024 .chs) (by simp [opcodeTable, genericRegisterRows]) (by decide) rfl

theorem RowAccepts.cra : Statement .cra :=
  of_row (genericRow "CRA" 0o140040 .cra) (by simp [opcodeTable, genericRegisterRows]) (by decide) rfl

theorem RowAccepts.ssp : Statement .ssp :=
  of_row (genericRow "SSP" 0o140100 .ssp) (by simp [opcodeTable, genericRegisterRows]) (by decide) rfl

theorem RowAccepts.rcb : Statement .rcb :=
  of_row (genericRow "RCB" 0o140200 .rcb) (by simp [opcodeTable, genericRegisterRows]) (by decide) rfl

theorem RowAccepts.csa : Statement .csa :=
  of_row (genericRow "CSA" 0o140320 .csa) (by simp [opcodeTable, genericRegisterRows]) (by decide) rfl

theorem RowAccepts.cma : Statement .cma :=
  of_row (genericRow "CMA" 0o140401 .cma) (by simp [opcodeTable, genericRegisterRows]) (by decide) rfl

theorem RowAccepts.ssm : Statement .ssm :=
  of_row (genericRow "SSM" 0o140500 .ssm) (by simp [opcodeTable, genericRegisterRows]) (by decide) rfl

theorem RowAccepts.scb : Statement .scb :=
  of_row (genericRow "SCB" 0o140600 .scb) (by simp [opcodeTable, genericRegisterRows]) (by decide) rfl

theorem RowAccepts.car : Statement .car :=
  of_row (genericRow "CAR" 0o141044 .car) (by simp [opcodeTable, genericRegisterRows]) (by decide) rfl

theorem RowAccepts.cal : Statement .cal :=
  of_row (genericRow "CAL" 0o141050 .cal) (by simp [opcodeTable, genericRegisterRows]) (by decide) rfl

theorem RowAccepts.icl : Statement .icl :=
  of_row (genericRow "ICL" 0o141140 .icl) (by simp [opcodeTable, genericRegisterRows]) (by decide) rfl

theorem RowAccepts.aoa : Statement .aoa :=
  of_row (genericRow "AOA" 0o141206 .aoa) (by simp [opcodeTable, genericRegisterRows]) (by decide) rfl

theorem RowAccepts.aca : Statement .aca :=
  of_row (genericRow "ACA" 0o141216 .aca) (by simp [opcodeTable, genericRegisterRows]) (by decide) rfl

theorem RowAccepts.icr : Statement .icr :=
  of_row (genericRow "ICR" 0o141240 .icr) (by simp [opcodeTable, genericRegisterRows]) (by decide) rfl

theorem RowAccepts.ica : Statement .ica :=
  of_row (genericRow "ICA" 0o141340 .ica) (by simp [opcodeTable, genericRegisterRows]) (by decide) rfl

theorem RowAccepts.tca : Statement .tca :=
  of_row (genericRow "TCA" 0o141407 .tca) (by simp [opcodeTable, genericRegisterRows]) (by decide) rfl

theorem RowAccepts.otk : Statement .otk :=
  of_row (genericRow "OTK" 0o171020 .otk) (by simp [opcodeTable, genericRegisterRows]) (by decide) rfl

theorem RowAccepts.jmp (m : MemRef) : Statement (.jmp m) :=
  of_row (memRefRow "JMP" 0o01 .jmp) (by simp [opcodeTable, memRefRows]) (memRefWord_mask _ m)
    (congrArg Instr.jmp (memRefField_memRefWord _ m))

theorem RowAccepts.lda (m : MemRef) : Statement (.lda m) :=
  of_row (memRefRow "LDA" 0o02 .lda) (by simp [opcodeTable, memRefRows]) (memRefWord_mask _ m)
    (congrArg Instr.lda (memRefField_memRefWord _ m))

theorem RowAccepts.ana (m : MemRef) : Statement (.ana m) :=
  of_row (memRefRow "ANA" 0o03 .ana) (by simp [opcodeTable, memRefRows]) (memRefWord_mask _ m)
    (congrArg Instr.ana (memRefField_memRefWord _ m))

theorem RowAccepts.sta (m : MemRef) : Statement (.sta m) :=
  of_row (memRefRow "STA" 0o04 .sta) (by simp [opcodeTable, memRefRows]) (memRefWord_mask _ m)
    (congrArg Instr.sta (memRefField_memRefWord _ m))

theorem RowAccepts.era (m : MemRef) : Statement (.era m) :=
  of_row (memRefRow "ERA" 0o05 .era) (by simp [opcodeTable, memRefRows]) (memRefWord_mask _ m)
    (congrArg Instr.era (memRefField_memRefWord _ m))

theorem RowAccepts.add (m : MemRef) : Statement (.add m) :=
  of_row (memRefRow "ADD" 0o06 .add) (by simp [opcodeTable, memRefRows]) (memRefWord_mask _ m)
    (congrArg Instr.add (memRefField_memRefWord _ m))

theorem RowAccepts.sub (m : MemRef) : Statement (.sub m) :=
  of_row (memRefRow "SUB" 0o07 .sub) (by simp [opcodeTable, memRefRows]) (memRefWord_mask _ m)
    (congrArg Instr.sub (memRefField_memRefWord _ m))

theorem RowAccepts.jst (m : MemRef) : Statement (.jst m) :=
  of_row (memRefRow "JST" 0o10 .jst) (by simp [opcodeTable, memRefRows]) (memRefWord_mask _ m)
    (congrArg Instr.jst (memRefField_memRefWord _ m))

theorem RowAccepts.cas (m : MemRef) : Statement (.cas m) :=
  of_row (memRefRow "CAS" 0o11 .cas) (by simp [opcodeTable, memRefRows]) (memRefWord_mask _ m)
    (congrArg Instr.cas (memRefField_memRefWord _ m))

theorem RowAccepts.irs (m : MemRef) : Statement (.irs m) :=
  of_row (memRefRow "IRS" 0o12 .irs) (by simp [opcodeTable, memRefRows]) (memRefWord_mask _ m)
    (congrArg Instr.irs (memRefField_memRefWord _ m))

theorem RowAccepts.ima (m : MemRef) : Statement (.ima m) :=
  of_row (memRefRow "IMA" 0o13 .ima) (by simp [opcodeTable, memRefRows]) (memRefWord_mask _ m)
    (congrArg Instr.ima (memRefField_memRefWord _ m))

theorem RowAccepts.stx (m : PlainRef) : Statement (.stx m) :=
  of_row (plainRefRow "STX" 0o15 .stx) (by simp [opcodeTable, memRefRows]) (plainRefWord_mask false m)
    (congrArg Instr.stx (plainRefField_plainRefWord false m))

theorem RowAccepts.ldx (m : PlainRef) : Statement (.ldx m) :=
  of_row (plainRefRow "LDX" 0o35 .ldx) (by simp [opcodeTable, memRefRows]) (plainRefWord_mask true m)
    (congrArg Instr.ldx (plainRefField_plainRefWord true m))

theorem RowAccepts.lrl (n : BitVec 6) : Statement (.lrl n) :=
  of_row (shiftRow "LRL" 0o0400 .lrl) (by simp [opcodeTable, shiftRows]) (shiftWord_mask _ n)
    (congrArg Instr.lrl (countField_shiftWord _ n))

theorem RowAccepts.lrs (n : BitVec 6) : Statement (.lrs n) :=
  of_row (shiftRow "LRS" 0o0401 .lrs) (by simp [opcodeTable, shiftRows]) (shiftWord_mask _ n)
    (congrArg Instr.lrs (countField_shiftWord _ n))

theorem RowAccepts.lrr (n : BitVec 6) : Statement (.lrr n) :=
  of_row (shiftRow "LRR" 0o0402 .lrr) (by simp [opcodeTable, shiftRows]) (shiftWord_mask _ n)
    (congrArg Instr.lrr (countField_shiftWord _ n))

theorem RowAccepts.lgr (n : BitVec 6) : Statement (.lgr n) :=
  of_row (shiftRow "LGR" 0o0404 .lgr) (by simp [opcodeTable, shiftRows]) (shiftWord_mask _ n)
    (congrArg Instr.lgr (countField_shiftWord _ n))

theorem RowAccepts.ars (n : BitVec 6) : Statement (.ars n) :=
  of_row (shiftRow "ARS" 0o0405 .ars) (by simp [opcodeTable, shiftRows]) (shiftWord_mask _ n)
    (congrArg Instr.ars (countField_shiftWord _ n))

theorem RowAccepts.arr (n : BitVec 6) : Statement (.arr n) :=
  of_row (shiftRow "ARR" 0o0406 .arr) (by simp [opcodeTable, shiftRows]) (shiftWord_mask _ n)
    (congrArg Instr.arr (countField_shiftWord _ n))

theorem RowAccepts.lll (n : BitVec 6) : Statement (.lll n) :=
  of_row (shiftRow "LLL" 0o0410 .lll) (by simp [opcodeTable, shiftRows]) (shiftWord_mask _ n)
    (congrArg Instr.lll (countField_shiftWord _ n))

theorem RowAccepts.lls (n : BitVec 6) : Statement (.lls n) :=
  of_row (shiftRow "LLS" 0o0411 .lls) (by simp [opcodeTable, shiftRows]) (shiftWord_mask _ n)
    (congrArg Instr.lls (countField_shiftWord _ n))

theorem RowAccepts.llr (n : BitVec 6) : Statement (.llr n) :=
  of_row (shiftRow "LLR" 0o0412 .llr) (by simp [opcodeTable, shiftRows]) (shiftWord_mask _ n)
    (congrArg Instr.llr (countField_shiftWord _ n))

theorem RowAccepts.lgl (n : BitVec 6) : Statement (.lgl n) :=
  of_row (shiftRow "LGL" 0o0414 .lgl) (by simp [opcodeTable, shiftRows]) (shiftWord_mask _ n)
    (congrArg Instr.lgl (countField_shiftWord _ n))

theorem RowAccepts.als (n : BitVec 6) : Statement (.als n) :=
  of_row (shiftRow "ALS" 0o0415 .als) (by simp [opcodeTable, shiftRows]) (shiftWord_mask _ n)
    (congrArg Instr.als (countField_shiftWord _ n))

theorem RowAccepts.alr (n : BitVec 6) : Statement (.alr n) :=
  of_row (shiftRow "ALR" 0o0416 .alr) (by simp [opcodeTable, shiftRows]) (shiftWord_mask _ n)
    (congrArg Instr.alr (countField_shiftWord _ n))

theorem RowAccepts.ocp (io : IoAddr) : Statement (.ocp io) :=
  of_row (ioRow "OCP" 0o14 .ocp) (by simp [opcodeTable, ioRows]) (ioWord_mask _ io)
    (congrArg Instr.ocp (ioField_ioWord _ io))

theorem RowAccepts.sks (io : IoAddr) : Statement (.sks io) :=
  of_row (ioRow "SKS" 0o34 .sks) (by simp [opcodeTable, ioRows]) (ioWord_mask _ io)
    (congrArg Instr.sks (ioField_ioWord _ io))

theorem RowAccepts.ina (io : IoAddr) : Statement (.ina io) :=
  of_row (ioRow "INA" 0o54 .ina) (by simp [opcodeTable, ioRows]) (ioWord_mask _ io)
    (congrArg Instr.ina (ioField_ioWord _ io))

theorem RowAccepts.ota (io : IoAddr) : Statement (.ota io) :=
  of_row (ioRow "OTA" 0o74 .ota) (by simp [opcodeTable, ioRows]) (ioWord_mask _ io)
    (congrArg Instr.ota (ioField_ioWord _ io))

theorem RowAccepts.smk : Statement .smk :=
  of_row (genericRow "SMK" 0o170020 .smk) (by simp [opcodeTable, ioRows]) (by decide) rfl

end Sys2Proof.Laws
end

