-- ==== Sys2Proof/Laws/Shift.lean ====
section
/-! SUPPORT. What repeating a shift step does, and what an SH-type instruction leaves in each field. -/

namespace Sys2Proof.Machine

variable (f : ShiftRegs → ShiftRegs) (n : Nat) (r : ShiftRegs)

@[simp] theorem repeatStep_zero : repeatStep f 0 r = r := rfl

theorem repeatStep_succ : repeatStep f (n + 1) r = repeatStep f n (f r) := rfl

/-- The last of n + 1 steps, split off. -/
theorem repeatStep_succ_last : repeatStep f (n + 1) r = f (repeatStep f n r) := by
  induction n generalizing r with
  | zero => rfl
  | succ n ih => rw [repeatStep_succ, ih, repeatStep_succ]

/-- What holds at the start and is carried on by each step holds after n steps. -/
theorem repeatStep_induct {motive : Nat → ShiftRegs → Prop} (zero : motive 0 r)
    (succ : ∀ k q, motive k q → motive (k + 1) (f q)) : motive n (repeatStep f n r) := by
  induction n with
  | zero => exact zero
  | succ n ih => rw [repeatStep_succ_last]; exact succ n _ ih

variable (k : BitVec 6) (s : State)

/-- An SH-type instruction changes A, B, C, the Shift Count and the draws, and nothing else. -/
theorem shiftBy_eq :
    shiftBy f k s = { s with
      a := (shifted f k s).a, b := (shifted f k s).b, c := (shifted f k s).c,
      sc := Config.freeShiftCount s.draws, draws := s.draws + 1 } := rfl

end Sys2Proof.Machine
end

