-- ==== Sys2Proof/Tests/Slice0.lean ====
section
/-! SUPPORT. Tests. Expected results come from the spec: the words from 30_encoding.md R63 to R73, the steps from the vectors of
95_test_vectors.md (named E, LS, SH, IO, J, I, X there). After them, for every obligation with hypotheses, a witness: a state and
operands that meet them. -/

namespace Sys2Proof.Tests

open Sys2Proof.Machine

set_option maxRecDepth 100000

/-! ## Helpers -/

/-- A memory with these words in it. -/
def place (words : List (Addr × Word)) : Memory := words.foldl (fun m w => m.writeWord w.1 w.2) []

/-- The state after reset with P at l and these words in memory. -/
def machine (l : Addr) (words : List (Addr × Word)) : State := { State.reset with p := l, mem := place words }

/-- s about to execute the word w at '01000. -/
def about (w : Word) (s : State) : State := { s with p := 0o1000, mem := place [(0o1000, w)] }

/-- The value answered, if one is. -/
def value {α : Type} (r : Result α) : Option α :=
  match r with
  | .next v => some v
  | .fault _ => none
  | .refused _ => none

/-- The refusal, if it is one. -/
def refusal {α : Type} (r : Result α) : Option Refusal :=
  match r with
  | .next _ => none
  | .fault _ => none
  | .refused why => some why

/-- The fault, if it is one. -/
def faultOf {α : Type} (r : Result α) : Option Fault :=
  match r with
  | .next _ => none
  | .fault why => some why
  | .refused _ => none

/-- What f sees of the next state. -/
def after {α : Type} (s : State) (f : State → α) : Option α := (value (step s)).map f

theorem eq_next_of_value {α : Type} {r : Result α} {v : α} (h : value r = some v) : r = .next v := by
  cases r <;> simp_all [value]

theorem exists_next {α : Type} {r : Result α} (h : (value r).isSome = true) : ∃ v, r = .next v := by
  cases r <;> simp_all [value]

theorem eq_fault_of {α : Type} {r : Result α} {e : Fault} (h : faultOf r = some e) : r = .fault e := by
  cases r <;> simp_all [faultOf]

theorem eq_refused_of {α : Type} {r : Result α} {why : Refusal} (h : refusal r = some why) : r = .refused why := by
  cases r <;> simp_all [refusal]

theorem addresses_of {s : State} {m : MemRef} {y : Addr} (hd : s.dp = false) (he : s.extmd = false)
    (h : value (effectiveAddress s m) = some y) (hn : y.toNat < s.memSize) : Addresses s m y :=
  ⟨hd, he, eq_next_of_value h, hn⟩

/-- w decodes to i, and i is well formed and encodes to w. -/
def isWordOf (w : Word) (i : Instr) : Bool := decide (decode w = .ok i) && encode i == w && i.wellFormed

/-! ## WellFormed: the one check, on both the words it excludes -/

theorem test_wellFormed_refuses_smk_as_ota : (Instr.ota ⟨0o00, 0o20⟩).wellFormed = false := by decide
theorem test_wellFormed_refuses_otk_as_ota : (Instr.ota ⟨0o10, 0o20⟩).wellFormed = false := by decide
theorem test_wellFormed_accepts_ota : (Instr.ota ⟨0o10, 0o21⟩).wellFormed = true := by decide

/-! ## Decoding: every constructor, from a word written out -/

/-- R70, R63: the type-G words of the first list of the source, and their instructions. -/
theorem test_decode_generic_skips :
    (isWordOf 0o000000 .hlt && isWordOf 0o000043 .ink && isWordOf 0o000201 .iab && isWordOf 0o000401 .enb &&
    isWordOf 0o001001 .inh && isWordOf 0o100000 .skp && isWordOf 0o100001 .src && isWordOf 0o100002 .sr4 &&
    isWordOf 0o100004 .sr3 && isWordOf 0o100010 .sr2 && isWordOf 0o100020 .sr1 && isWordOf 0o100036 .ssr &&
    isWordOf 0o100040 .sze && isWordOf 0o100100 .slz && isWordOf 0o100400 .spl && isWordOf 0o101000 .nop &&
    isWordOf 0o101001 .ssc && isWordOf 0o101002 .ss4 && isWordOf 0o101004 .ss3 && isWordOf 0o101010 .ss2 &&
    isWordOf 0o101020 .ss1 && isWordOf 0o101036 .sss && isWordOf 0o101040 .snz && isWordOf 0o101100 .sln &&
    isWordOf 0o101400 .smi) = true := by
  decide

theorem test_decode_generic_registers :
    (isWordOf 0o140024 .chs && isWordOf 0o140040 .cra && isWordOf 0o140100 .ssp && isWordOf 0o140200 .rcb &&
    isWordOf 0o140320 .csa && isWordOf 0o140401 .cma && isWordOf 0o140500 .ssm && isWordOf 0o140600 .scb &&
    isWordOf 0o141044 .car && isWordOf 0o141050 .cal && isWordOf 0o141140 .icl && isWordOf 0o141206 .aoa &&
    isWordOf 0o141216 .aca && isWordOf 0o141240 .icr && isWordOf 0o141340 .ica && isWordOf 0o141407 .tca &&
    isWordOf 0o171020 .otk) = true := by
  decide

/-- R64, R68, R71: I, T, OP, S, D written out bit by bit. -/
theorem test_decode_memory_reference :
    (isWordOf 0b1_0_0001_1_001000000 (.jmp ⟨true, false, true, 0o100⟩) &&
    isWordOf 0b0_1_0010_0_111111111 (.lda ⟨false, true, false, 0o777⟩) &&
    isWordOf 0b0_0_0011_1_000000001 (.ana ⟨false, false, true, 0o001⟩) &&
    isWordOf 0b1_1_0100_0_100000000 (.sta ⟨true, true, false, 0o400⟩) &&
    isWordOf 0b0_0_0101_0_000000010 (.era ⟨false, false, false, 0o002⟩) &&
    isWordOf 0b0_1_0110_1_000010101 (.add ⟨false, true, true, 0o025⟩) &&
    isWordOf 0b1_0_0111_0_010101010 (.sub ⟨true, false, false, 0o252⟩) &&
    isWordOf 0b0_0_1000_1_000001000 (.jst ⟨false, false, true, 0o010⟩) &&
    isWordOf 0b0_0_1001_1_001000000 (.cas ⟨false, false, true, 0o100⟩) &&
    isWordOf 0b1_0_1010_1_001000000 (.irs ⟨true, false, true, 0o100⟩) &&
    isWordOf 0b0_1_1011_0_000000000 (.ima ⟨false, true, false, 0o000⟩) &&
    isWordOf 0b0_0_1101_1_001000000 (.stx ⟨false, true, 0o100⟩) &&
    isWordOf 0b1_1_1101_1_001000000 (.ldx ⟨true, true, 0o100⟩)) = true := by
  decide

/-- R65, R72: OP10 as corrected, and K = 64 - n. -/
theorem test_decode_shifts :
    (isWordOf 0b0100000000_111100 (.lrl 4) && isWordOf 0b0100000001_100001 (.lrs 31) &&
    isWordOf 0b0100000010_110000 (.lrr 16) && isWordOf 0b0100000100_111111 (.lgr 1) &&
    isWordOf 0b0100000101_000001 (.ars 63) && isWordOf 0b0100000110_111100 (.arr 4) &&
    isWordOf 0b0100001000_100000 (.lll 32) && isWordOf 0b0100001001_110001 (.lls 15) &&
    isWordOf 0b0100001010_111111 (.llr 1) && isWordOf 0b0100001100_101111 (.lgl 17) &&
    isWordOf 0b0100001101_111101 (.als 3) && isWordOf 0b0100001110_000000 (.alr 0)) = true := by
  decide

/-- R67, R73: OP6, F, DEV; '171021 is an ordinary OTA (IO12). -/
theorem test_decode_input_output :
    (isWordOf 0b001100_0001_000100 (.ocp ⟨0o01, 0o04⟩) && isWordOf 0b011100_0000_000100 (.sks ⟨0o00, 0o04⟩) &&
    isWordOf 0b101100_1000_000100 (.ina ⟨0o10, 0o04⟩) && isWordOf 0b111100_1000_010001 (.ota ⟨0o10, 0o21⟩) &&
    isWordOf 0b111100_0000_010000 .smk) = true := by
  decide

theorem test_decode_undefined :
    decode 0o000001 = .error .generic ∧ decode 0o140407 = .error .generic ∧ decode 0o036100 = .error .opCode ∧
    decode 0o174000 = .error .opCode ∧ decode 0o040300 = .error .shift := by
  decide

theorem test_decodeTableWord :
    decodeTableWord 16 0o171020 = some .otk ∧ decodeTableWord 16 0o005100 = some (.lda ⟨false, false, true, 0o100⟩) ∧
    decodeTableWord 16 0o040300 = none := by
  decide

/-- R76: an address in sector 0, one in the instruction's sector, and one in neither. -/
theorem test_directOperand :
    directOperand 0o5000 0o0100 = some (false, 0o100) ∧ directOperand 0o5000 0o5100 = some (true, 0o100) ∧
    directOperand 0o5000 0o1100 = none ∧ addressWord true false 0o2345 = 0o102345 := by
  decide

/-! ## Effective address (E1 to E17) -/

theorem test_ea_sector_zero : after (machine 0o5000 [(0o5000, 0o004100), (0o0100, 0o011111)]) (·.a) = some 0o011111 := by decide
theorem test_ea_own_sector :
    after (machine 0o5000 [(0o5000, 0o005100), (0o5100, 0o022222), (0o0100, 0o011111)]) (·.a) = some 0o022222 := by decide
theorem test_ea_negative_index :
    after { machine 0o1000 [(0o1000, 0o045100), (0o1076, 0o055555)] with x := 0o177776 } (·.a) = some 0o055555 := by decide
theorem test_ea_index_then_indirect :
    after { machine 0o1000 [(0o1000, 0o145100), (0o1102, 0o002345), (0o2345, 0o077777)] with x := 2 } (·.a) = some 0o077777 := by
  decide
theorem test_ea_indexed_address_word :
    after { machine 0o1000 [(0o1000, 0o105100), (0o1100, 0o042345), (0o2347, 0o012121)] with x := 2 } (·.a) = some 0o012121 := by
  decide
theorem test_ea_two_levels :
    after (machine 0o1000 [(0o1000, 0o105100), (0o1100, 0o102345), (0o2345, 0o003456), (0o3456, 0o013131)]) (·.a)
      = some 0o013131 := by
  decide
theorem test_ea_index_wraps :
    after { machine 0o1000 [(0o1000, 0o044777), (0o0776, 0o001234)] with x := 0o037777 } (·.a) = some 0o001234 := by decide
theorem test_ea_last_sector : after (machine 0o37000 [(0o37000, 0o005777), (0o37777, 0o004321)]) (·.a) = some 0o004321 := by decide

/-- E15: a word that points to itself, with P past the instruction at '01000. -/
def selfPointing : State := machine 0o1001 [(0o1000, 0o105100), (0o1100, 0o101100)]

theorem test_ea_endless : effectiveAddress selfPointing ⟨true, false, true, 0o100⟩ = .fault .endlessIndirect :=
  followIndirect_selfPointing (y := 0o1100) (by decide) (by decide) (by decide) chainFuel

theorem test_dp_refuses_memory_reference :
    refusal (step { machine 0o1000 [(0o1000, 0o005100)] with dp := true }) = some .dpModeSet := by decide
theorem test_extmd_refuses_memory_reference :
    refusal (step { machine 0o1000 [(0o1000, 0o005100)] with extmd := true }) = some .extmdSet := by decide
theorem test_small_memory :
    after { machine 0o0400 [(0o0400, 0o005100), (0o0100, 0o000777)] with memSize := 512 } (·.a) = some 0o000777 := by decide
theorem test_fetch_outside_memory :
    refusal (step { machine 0o1000 [(0o1000, 0o005100)] with memSize := 512 }) = some .outsideInstalledMemory := by decide
theorem test_operand_outside_memory :
    refusal (step { machine 0o1000 [(0o1000, 0o104100), (0o0100, 0o010000)] with memSize := 4096 })
      = some .outsideInstalledMemory := by
  decide

/-! ## Load and store (LS1 to LS14) -/

theorem test_cra : after (about 0o140040 { State.reset with a := 0o123456, c := true }) (fun t => (t.a, t.c)) = some (0, true) := by
  decide
theorem test_iab :
    after (about 0o000201 { State.reset with a := 1, b := 0o177777 }) (fun t => (t.a, t.b)) = some (0o177777, 1) := by decide
theorem test_ima :
    after { machine 0o1000 [(0o1000, 0o027100), (0o1100, 7)] with a := 5 } (fun t => (t.a, t.mem.readWord 0o1100)) = some (7, 5) := by
  decide
theorem test_ima_location_zero :
    after { machine 0o1000 [(0o1000, 0o026000), (0, 0o11)] with a := 5, x := 7 } (fun t => (t.a, t.mem.readWord 0, t.x))
      = some (0o11, 5, 5) := by
  decide
theorem test_ink : after (about 0o000043 { State.reset with c := true, sc := 5, a := 0o007777 }) (·.a) = some 0o100005 := by decide
theorem test_ink_all_keys :
    after (about 0o000043 { State.reset with dp := true, extmd := true, sc := 0o37 }) (·.a) = some 0o060037 := by decide
theorem test_lda : after (machine 0o1000 [(0o1000, 0o005100), (0o1100, 0o052525)]) (·.a) = some 0o052525 := by decide
theorem test_ldx :
    after { machine 0o1000 [(0o1000, 0o073100), (0o1100, 0o177775), (0, 0o123)] with x := 5 } (fun t => (t.x, t.mem.readWord 0))
      = some (0o177775, 0o177775) := by
  decide
theorem test_ldx_indirect_indexed_by_old_x :
    after { machine 0o1000 [(0o1000, 0o173100), (0o1100, 0o042000), (0o2002, 0o31)] with x := 2 }
      (fun t => (t.x, t.mem.readWord 0)) = some (0o31, 0o31) := by
  decide
theorem test_otk :
    after (about 0o171020 { State.reset with a := 0o100005 }) (fun t => (t.c, t.dp, t.extmd, t.sc, t.a, t.p))
      = some (true, false, false, 5, 0o100005, 0o1001) := by
  decide
theorem test_otk_ignores_the_middle_bits :
    after (about 0o171020 { State.reset with a := 0o037740, c := true, sc := 7 }) (fun t => (t.c, t.dp, t.extmd, t.sc))
      = some (false, false, true, 0) := by
  decide
theorem test_sta : after { machine 0o1000 [(0o1000, 0o010100)] with a := 0o42 } (·.mem.readWord 0o0100) = some 0o42 := by decide
theorem test_sta_location_zero :
    after { machine 0o1000 [(0o1000, 0o010000), (0, 7)] with a := 0o123, x := 7 } (fun t => (t.mem.readWord 0, t.x))
      = some (0o123, 0o123) := by
  decide
theorem test_stx :
    after { machine 0o1000 [(0o1000, 0o033100)] with x := 0o12 } (fun t => (t.mem.readWord 0o1100, t.x, t.mem.readWord 0))
      = some (0o12, 0o12, 0) := by
  decide

/-! ## Arithmetic (2.3) -/

theorem test_add_overflows :
    after { machine 0o1000 [(0o1000, 0o015100), (0o1100, 1)] with a := 0o077777 } (fun t => (t.a, t.c)) = some (0o100000, true) := by
  decide
theorem test_add_carry_is_no_overflow :
    after { machine 0o1000 [(0o1000, 0o015100), (0o1100, 1)] with a := 0o177777, c := true } (fun t => (t.a, t.c))
      = some (0, false) := by
  decide
theorem test_sub_overflows :
    after { machine 0o1000 [(0o1000, 0o017100), (0o1100, 0o100000)] with a := 0 } (fun t => (t.a, t.c))
      = some (0o100000, true) := by
  decide
theorem test_sub :
    after { machine 0o1000 [(0o1000, 0o017100), (0o1100, 7)] with a := 5, c := true } (fun t => (t.a, t.c))
      = some (0o177776, false) := by
  decide
theorem test_aoa_overflows :
    after (about 0o141206 { State.reset with a := 0o077777 }) (fun t => (t.a, t.c)) = some (0o100000, true) := by decide
theorem test_aoa_wraps :
    after (about 0o141206 { State.reset with a := 0o177777, c := true }) (fun t => (t.a, t.c)) = some (0, false) := by decide
theorem test_aca_overflows :
    after (about 0o141216 { State.reset with a := 0o077777, c := true }) (fun t => (t.a, t.c)) = some (0o100000, true) := by decide
theorem test_aca_adds_c :
    after (about 0o141216 { State.reset with a := 0o41, c := true }) (fun t => (t.a, t.c)) = some (0o42, false) := by decide
theorem test_tca : after (about 0o141407 { State.reset with a := 1, c := true }) (fun t => (t.a, t.c)) = some (0o177777, true) := by
  decide
theorem test_tca_least : after (about 0o141407 { State.reset with a := 0o100000 }) (fun t => (t.a, t.c)) = some (0o100000, false) := by
  decide

/-! ## Logical and half-word (2.4, 2.5) -/

/-- The source's example S1. -/
theorem test_ana : after { machine 0o1000 [(0o1000, 0o007100), (0o1100, 3)] with a := 5 } (·.a) = some 1 := by decide

/-- The source's example S2. -/
theorem test_era : after { machine 0o1000 [(0o1000, 0o013100), (0o1100, 5)] with a := 3 } (·.a) = some 6 := by decide
theorem test_csa : after (about 0o140320 { State.reset with a := 0o125252 }) (fun t => (t.a, t.c)) = some (0o025252, true) := by decide
theorem test_chs : after (about 0o140024 { State.reset with a := 0o077777 }) (·.a) = some 0o177777 := by decide
theorem test_cma : after (about 0o140401 { State.reset with a := 5 }) (·.a) = some 0o177772 := by decide
theorem test_ssm : after (about 0o140500 { State.reset with a := 5 }) (·.a) = some 0o100005 := by decide
theorem test_ssp : after (about 0o140100 { State.reset with a := 0o177776 }) (·.a) = some 0o077776 := by decide
theorem test_cal : after (about 0o141050 { State.reset with a := 0o123456 }) (·.a) = some 0o000056 := by decide
theorem test_car : after (about 0o141044 { State.reset with a := 0o123456 }) (·.a) = some 0o123400 := by decide
theorem test_ica : after (about 0o141340 { State.reset with a := 0o123456 }) (·.a) = some 0o027247 := by decide
theorem test_icl : after (about 0o141140 { State.reset with a := 0o123456 }) (·.a) = some 0o000247 := by decide
theorem test_icr : after (about 0o141240 { State.reset with a := 0o123456 }) (·.a) = some 0o027000 := by decide

/-! ## Shifts (SH1 to SH68), C = 1 before each -/

/-- A, B and C after the shift word w. -/
def shiftTest (w a b : Word) : Option (Word × Word × Bool) :=
  after (about w { State.reset with a := a, b := b, c := true }) fun t => (t.a, t.b, t.c)

theorem test_alr_sh1 : shiftTest 0o041674 0o123456 1 = some (0o071352, 1, false) := by decide
theorem test_alr_sh4 : shiftTest 0o041600 0o123456 1 = some (0o123456, 1, false) := by decide
theorem test_als_sh8 : shiftTest 0o041576 0o040000 1 = some (0, 1, true) := by decide
theorem test_als_sh13 : shiftTest 0o041561 0o177777 1 = some (0o100000, 1, false) := by decide
theorem test_arr_sh15 : shiftTest 0o040674 0o123456 1 = some (0o165162, 1, true) := by decide
theorem test_ars_sh21 : shiftTest 0o040560 0o100000 1 = some (0o177777, 1, true) := by decide
theorem test_ars_sh23 : shiftTest 0o040501 0o040000 1 = some (0, 1, false) := by decide
theorem test_lgl_sh26 : shiftTest 0o041460 1 1 = some (0, 1, true) := by decide
theorem test_lgl_sh27 : shiftTest 0o041457 1 1 = some (0, 1, false) := by decide
theorem test_lgr_sh29 : shiftTest 0o040477 0o100001 1 = some (0o040000, 1, true) := by decide
theorem test_lll_sh40 : shiftTest 0o041074 0o000017 0o170000 = some (0o000377, 0, false) := by decide
theorem test_lll_sh42 : shiftTest 0o041040 0o123456 1 = some (0, 0, true) := by decide
theorem test_llr_sh44 : shiftTest 0o041274 0o170000 0o000017 = some (0, 0o000377, true) := by decide
theorem test_lls_sh48 : shiftTest 0o041177 0 0o140000 = some (1, 0o100000, false) := by decide
theorem test_lls_sh54 : shiftTest 0o041142 0 1 = some (0o100000, 0, true) := by decide
theorem test_lrl_sh55 : shiftTest 0o040074 0o000017 0o170000 = some (0, 0o177400, false) := by decide
theorem test_lrl_sh57 : shiftTest 0o040040 0o100000 0 = some (0, 0, true) := by decide
theorem test_lrr_sh59 : shiftTest 0o040274 0 0o000017 = some (0o170000, 0, true) := by decide
theorem test_lrs_sh62 : shiftTest 0o040174 0o177777 0o100007 = some (0o177777, 0o174000, false) := by decide
theorem test_lrs_sh66 : shiftTest 0o040141 0o100000 0 = some (0o177777, 0o077777, true) := by decide
theorem test_undefined_shift_sh68 : refusal (step (machine 0o1000 [(0o1000, 0o040300)])) = some (.undefinedWord .shift) := by decide

/-! ## Input-output (IO1 to IO12) -/

/-- Device '04 offers '000301, would take any word, and has the line under function '00 set. -/
def busy : Panel :=
  { Panel.quiet with
    lines := [⟨0o00, 0o04⟩], offers := [(⟨0o10, 0o04⟩, 0o000301), (⟨0o00, 0o04⟩, 0o000301)], takes := [(⟨0o00, 0o04⟩, none)] }

/-- The state after reset with such a device. -/
def withDevice : State := { State.reset with dev := { State.reset.dev with devices := .listed [busy] 0 } }

theorem test_ina_replaces_io1 :
    after (about 0o131004 { withDevice with a := 0o177777 }) (fun t => (t.a, t.p)) = some (0o000301, 0o1002) := by decide
theorem test_ina_ors_io2 :
    after (about 0o130004 { withDevice with a := 0o100000 }) (fun t => (t.a, t.p)) = some (0o100301, 0o1002) := by decide
theorem test_ina_not_ready_io3 :
    after (about 0o130004 { State.reset with a := 0o100000 }) (fun t => (t.a, t.p)) = some (0o100000, 0o1001) := by decide
theorem test_ina_not_ready_io4 : after (about 0o131004 { State.reset with a := 0o177777 }) (·.p) = some 0o1001 := by decide
theorem test_ocp_io5 :
    after (about 0o030104 State.reset) (fun t => (t.dev.record, t.p)) = some ([.pulse ⟨0o01, 0o04⟩], 0o1001) := by decide
theorem test_ota_taken_io6 :
    after (about 0o170004 { withDevice with a := 0o301 }) (fun t => (t.dev.record, t.p))
      = some ([.output ⟨0o00, 0o04⟩ 0o301 true], 0o1002) := by
  decide
theorem test_ota_not_taken_io7 : after (about 0o170004 { State.reset with a := 0o301 }) (fun t => (t.a, t.p)) = some (0o301, 0o1001) := by
  decide
theorem test_smk_io8 :
    after (about 0o170020 { withDevice with a := 3 }) (fun t => (t.dev.mask, t.a, t.p)) = some (3, 3, 0o1001) := by decide
theorem test_sks_set_io9 : after (about 0o070004 withDevice) (·.p) = some 0o1002 := by decide
theorem test_sks_not_set_io10 : after (about 0o070004 State.reset) (·.p) = some 0o1001 := by decide

/-! ## Control (2.8) -/

theorem test_cas_less : after { machine 0o1000 [(0o1000, 0o023100), (0o1100, 0o077777)] with a := 0o100000 } (·.p) = some 0o1003 := by
  decide
theorem test_cas_greater : after { machine 0o1000 [(0o1000, 0o023100), (0o1100, 0o177777)] with a := 1 } (·.p) = some 0o1001 := by
  decide
theorem test_irs_no_skip :
    after (machine 0o1000 [(0o1000, 0o025100), (0o1100, 0o177776)]) (fun t => (t.mem.readWord 0o1100, t.p))
      = some (0o177777, 0o1001) := by
  decide
theorem test_irs_location_zero_skips :
    after { machine 0o1000 [(0o1000, 0o024000), (0, 0o177777)] with x := 0o177777 } (fun t => (t.mem.readWord 0, t.x, t.p))
      = some (0, 0, 0o1002) := by
  decide
theorem test_jmp_j3 : after (machine 0o5000 [(0o5000, 0o002077)]) (·.p) = some 0o0077 := by decide
theorem test_jmp_indirect_j2 : after (machine 0o1000 [(0o1000, 0o103100), (0o1100, 0o002345)]) (·.p) = some 0o2345 := by decide
theorem test_jst_j4 :
    after (machine 0o1001 [(0o1001, 0o021010), (0o1010, 0o140000)]) (fun t => (t.mem.readWord 0o1010, t.p))
      = some (0o141002, 0o1011) := by
  decide
theorem test_jst_wraps_j5 :
    after (machine 0o37777 [(0o37777, 0o020100), (0o0100, 0o000777)]) (fun t => (t.mem.readWord 0o0100, t.p)) = some (0, 0o0101) := by
  decide
theorem test_nop_j6 : after (machine 0o37777 [(0o37777, 0o101000)]) (·.p) = some 0 := by decide
theorem test_skp_j7 : after (machine 0o37777 [(0o37777, 0o100000)]) (·.p) = some 1 := by decide
theorem test_hlt_j8 : after (about 0o000000 { State.reset with a := 5 }) (fun t => (t.halt, t.p, t.a)) = some (true, 0o1001, 5) := by decide

/-- P after the skip word w, with these A and C. -/
def skipTest (w a : Word) (c : Bool) : Option Addr := after (about w { State.reset with a := a, c := c }) (·.p)

theorem test_src : skipTest 0o100001 1 true = some 0o1001 := by decide
theorem test_ssc : skipTest 0o101001 1 true = some 0o1002 := by decide
theorem test_sze : skipTest 0o100040 0 false = some 0o1002 := by decide
theorem test_snz : skipTest 0o101040 0o100000 false = some 0o1002 := by decide
theorem test_slz : skipTest 0o100100 0o100001 true = some 0o1001 := by decide
theorem test_sln : skipTest 0o101100 0o100001 true = some 0o1002 := by decide
theorem test_spl : skipTest 0o100400 0 false = some 0o1002 := by decide
theorem test_smi : skipTest 0o101400 0o100001 true = some 0o1002 := by decide

/-- P after the skip word w, with these sense switches. -/
def switchTest (w : Word) (sw1 sw2 sw3 sw4 : Bool) : Option Addr :=
  after (about w { State.reset with switches := ⟨sw1, sw2, sw3, sw4⟩ }) (·.p)

theorem test_sr1 : switchTest 0o100020 true false false false = some 0o1001 := by decide
theorem test_sr2 : switchTest 0o100010 true false false false = some 0o1002 := by decide
theorem test_sr3 : switchTest 0o100004 false true true false = some 0o1001 := by decide
theorem test_sr4 : switchTest 0o100002 false false false true = some 0o1001 := by decide
theorem test_ssr : switchTest 0o100036 false false false true = some 0o1001 := by decide
theorem test_ssr_all_off : switchTest 0o100036 false false false false = some 0o1002 := by decide
theorem test_ss1 : switchTest 0o101020 true false false false = some 0o1002 := by decide
theorem test_ss2 : switchTest 0o101010 false true true false = some 0o1002 := by decide
theorem test_ss3 : switchTest 0o101004 true false false false = some 0o1001 := by decide
theorem test_ss4 : switchTest 0o101002 false false false true = some 0o1002 := by decide
theorem test_sss : switchTest 0o101036 false false false true = some 0o1002 := by decide
theorem test_rcb : after (about 0o140200 { State.reset with a := 5, c := true }) (fun t => (t.a, t.c)) = some (5, false) := by decide
theorem test_scb : after (about 0o140600 { State.reset with a := 5 }) (fun t => (t.a, t.c)) = some (5, true) := by decide

/-! ## The program interrupt (I1 to I9) and refusals (X1 to X3) -/

/-- A device that asks, with its mask flip-flop (here the last) letting the request pass. -/
def asking : DeviceEnv := { mask := 1, devices := .listed [{ Panel.quiet with requests := [⟨15, true⟩] }] 0, record := [] }

/-- I3: a request at P = '01000 with the handler's link word at '01100. -/
def requested : State :=
  { machine 0o1000 [(0o1000, 0o101000), (0o0063, 0o001100)] with pi := true, dev := asking, a := 5, c := true }

theorem test_enb_i1 :
    after (about 0o000401 { State.reset with dev := asking }) (fun t => (t.pi, t.piDelay, t.p)) = some (true, true, 0o1001) := by
  decide
theorem test_delay_i2 :
    after { requested with piDelay := true } (fun t => (t.pi, t.piDelay, t.p)) = some (true, false, 0o1001) := by decide
theorem test_entry_i3 :
    after requested (fun t => (t.mem.readWord 0o1100, t.p, t.pi, t.piDelay, t.a, t.c))
      = some (0o001000, 0o1101, false, false, 5, true) := by
  decide
theorem test_no_entry_i4 : after { requested with pi := false } (fun t => (t.p, t.dev.irq)) = some (0o1001, true) := by decide
theorem test_entry_two_levels_i5 :
    after { requested with mem := place [(0o0063, 0o101200), (0o1200, 0o001100), (0o1100, 0o100000)] }
      (fun t => (t.mem.readWord 0o1100, t.p, t.pi)) = some (0o101000, 0o1101, false) := by
  decide
theorem test_inh_i6 : after (about 0o001001 { State.reset with pi := true }) (fun t => (t.pi, t.p)) = some (false, 0o1001) := by decide
theorem test_entry_extmd_i7 : refusal (step { requested with extmd := true }) = some .extmdSet := by decide
theorem test_entry_dp_i8 : after { requested with dp := true } (fun t => (t.p, t.dp)) = some (0o1101, true) := by decide
theorem test_halted_i9 : faultOf (step { requested with halt := true }) = some .halted := by decide
theorem test_start_clears_halt :
    after { requested with halt := true, operator := .listed [⟨⟨true, false, false, false⟩, true⟩] }
      (fun t => (t.halt, t.p, t.switches.sw1, t.operator)) = some (false, 0o1000, true, .listed []) := by
  decide
theorem test_masked_request :
    after { requested with dev := { asking with mask := 0 } } (fun t => (t.p, t.pi)) = some (0o1001, true) := by decide
theorem test_undefined_x1 : refusal (step (machine 0o1000 [(0o1000, 0o000001)])) = some (.undefinedWord .generic) := by decide
theorem test_undefined_x2 : refusal (step (machine 0o1000 [(0o1000, 0o140407)])) = some (.undefinedWord .generic) := by decide
theorem test_undefined_x3 : refusal (step (machine 0o1000 [(0o1000, 0o036100)])) = some (.undefinedWord .opCode) := by decide

/-- Devices given as a table, in condition 0, with MASK letting the last flip-flop's request pass. -/
def tableDevices (panels : List Panel) : DeviceEnv := { mask := 1, devices := .listed panels 0, record := [] }

/-- A device that asks until OCP '0104 reaches it, as in program P4. -/
def asksUntilServed : DeviceEnv :=
  tableDevices [{ Panel.quiet with requests := [⟨15, true⟩], next := [(.pulse ⟨0o01, 0o04⟩, 1)] }, Panel.quiet]

theorem test_ocp_drops_a_request :
    after (about 0o030104 { State.reset with dev := asksUntilServed }) (fun t => t.dev.irq) = some false := by
  decide

/-- A device that takes the word '000301 and no other. -/
def takesOneWord : DeviceEnv := tableDevices [{ Panel.quiet with takes := [(⟨0o00, 0o04⟩, some 0o301)] }]

theorem test_ota_may_depend_on_the_word :
    (takesOneWord.ota ⟨0o00, 0o04⟩ 0o301).2 = true ∧ (takesOneWord.ota ⟨0o00, 0o04⟩ 0o302).2 = false := by
  decide

/-- A device that asks before every second step, without end. -/
def asksEverySecondStep : DeviceEnv :=
  tableDevices [{ Panel.quiet with next := [(.time, 1)] }, { Panel.quiet with requests := [⟨15, true⟩], next := [(.time, 0)] }]

theorem test_devices_move_before_the_step :
    after { requested with dev := asksEverySecondStep } (fun t => (t.p, t.pi, t.dev.tick.irq)) = some (0o1101, false, false) := by
  decide

/-! ## Reset -/

/-- From reset with nothing placed, word '000000 at P = '00000 is fetched: HLT (log 14). -/
theorem test_bare_reset_halts : after State.reset (fun t => (t.halt, t.p)) = some (true, 1) := by decide
theorem test_withFetchWord_runs_the_word : after (State.reset.withFetchWord 16 0o141206) (fun t => (t.a, t.p)) = some (1, 1) := by decide

/-! ## Witnesses: the hypotheses of each obligation are met -/

theorem witness_DecodeOfEncodeIsIdentity : (Instr.ota ⟨0o17, 0o77⟩).wellFormed = true := by decide

theorem witness_EncodeOfDecodeIsIdentity : decode 0o177777 = .error .opCode ∧ decode 0o171777 = .ok (.ota ⟨0o17, 0o77⟩) := by
  decide

/-- SMK's row inside OTA's: it matches, and no row that matches has a longer mask; the two rows have two names. -/
theorem witness_DecodeTakesTheLongestMatchingMask :
    (∃ r ∈ opcodeTable, r.accepts 0o170020 = true ∧
      ∀ r' ∈ opcodeTable, r'.accepts 0o170020 = true → onesIn r'.mask ≤ onesIn r.mask) ∧
    (∃ r ∈ opcodeTable, ∃ r' ∈ opcodeTable, r.accepts 0o170020 = true ∧ r'.accepts 0o170020 = true ∧
      r.mnemonic ≠ r'.mnemonic) := by
  decide

theorem witness_UndefinedWordsAreRefused :
    aboutToFetch (machine 0o1000 [(0o1000, 0o000001)]) ∧ (0o1000 : Addr).toNat < Config.defaultMemSize ∧
    decode ((machine 0o1000 [(0o1000, 0o000001)]).mem.readWord 0o1000) = .error .generic := by
  unfold aboutToFetch; decide

theorem witness_GenericWordsAreMatchedExactly : (0o171020, Instr.otk) ∈ genericWords ∧ decode 0o171020 = .ok .otk := by decide

theorem witness_DirectOperandReachesItsAddress_sector_zero :
    directOperand 0o5000 0o0777 = some (false, 0o777) ∧ (machine 0o5001 []).here = 0o5000 := by decide
theorem witness_DirectOperandReachesItsAddress_own_sector :
    directOperand 0o5000 0o5000 = some (true, 0) ∧ directOperand 0o0777 0o1000 = none := by decide

/-! The instruction cycle -/

theorem witness_StepRunsTheDecodedInstruction_halted :
    { requested with halt := true }.halt = true ∧ { requested with halt := true }.operator = .listed [] := by decide
theorem witness_StepRunsTheDecodedInstruction_interrupt :
    requested.halt = false ∧ (tick requested).pi = true ∧ (tick requested).piDelay = false ∧ (tick requested).dev.irq = true := by
  decide
theorem witness_StepRunsTheDecodedInstruction_fetch :
    { requested with piDelay := true }.halt = false ∧
    ¬((tick { requested with piDelay := true }).pi = true ∧ (tick { requested with piDelay := true }).piDelay = false ∧
      (tick { requested with piDelay := true }).dev.irq = true) ∧
    { requested with piDelay := true }.p.toNat < { requested with piDelay := true }.memSize ∧
    decode ({ requested with piDelay := true }.mem.readWord { requested with piDelay := true }.p) = .ok .nop := by
  decide

/-- Halted, with a move to come that presses START or does not. -/
def haltedWithMove (start : Bool) : State :=
  { State.reset with halt := true, operator := .listed [⟨⟨false, true, false, true⟩, start⟩] }

/-- A running machine with a move to come. -/
def runningWithMove : State := { haltedWithMove true with halt := false }

theorem witness_StepRunsTheDecodedInstruction_move :
    requested.operator = .listed [] ∧ runningWithMove.halt = false ∧
    runningWithMove.operator = .listed [⟨⟨false, true, false, true⟩, true⟩] ∧
    State.operator { requested with operator := .arbitrary 0 0 } = .arbitrary 0 0 := by
  decide

theorem witness_HaltLastsUntilStart :
    State.operator { State.reset with halt := true } = .listed [] ∧ (haltedWithMove true).halt = true ∧
    (haltedWithMove false).operator = .listed [⟨⟨false, true, false, true⟩, false⟩] ∧
    State.operator { haltedWithMove true with operator := .arbitrary 0 0 } = .arbitrary 0 0 := by
  decide

/-- P, and the operand '01000, just outside a memory of 512 words. -/
def smallMemory : State := { machine 0o1000 [(0o0100, 0o001000)] with memSize := 512 }

theorem witness_OutsideInstalledMemoryIsRefused_fetch : aboutToFetch smallMemory ∧ ¬ smallMemory.p.toNat < smallMemory.memSize := by
  unfold aboutToFetch; decide
theorem witness_OutsideInstalledMemoryIsRefused_operand :
    memRefOf (.sta ⟨true, false, false, 0o100⟩) = some ⟨true, false, false, 0o100⟩ ∧
    Instr.sta ⟨true, false, false, 0o100⟩ ≠ .jmp ⟨true, false, false, 0o100⟩ ∧
    smallMemory.dp = false ∧ smallMemory.extmd = false ∧
    effectiveAddress smallMemory ⟨true, false, false, 0o100⟩ = .next 0o1000 ∧ ¬ (0o1000 : Addr).toNat < smallMemory.memSize :=
  ⟨by decide, by decide, rfl, rfl, eq_next_of_value (by decide), by decide⟩

/-- The address word '01000 is outside 512 words: it is the first of a chain, or comes after one installed word. -/
def chainOutside : State := { machine 0o0401 [(0o0100, 0o101000)] with memSize := 512 }

theorem witness_OutsideInstalledMemoryIsRefused_chain :
    ChainLeaves chainOutside true 0o1000 ∧ ChainLeaves chainOutside true 0o0100 ∧
    memRefOf (.jmp ⟨true, false, false, 0o100⟩) = some ⟨true, false, false, 0o100⟩ ∧ chainOutside.dp = false ∧
    chainOutside.extmd = false ∧
    effectiveAddress chainOutside ⟨true, false, false, 0o100⟩ = .refused .outsideInstalledMemory :=
  ⟨.outside _ (by decide), .hop _ (by decide) (.outside _ (by decide)), rfl, rfl, rfl, eq_refused_of (by decide)⟩

/-- A request, and the word '00063 leading to an address word or to a link word at '01000, outside 512 words. -/
def vectorOutside (link : Word) : State := { requested with p := 0, mem := place [(0o0063, link)], memSize := 512 }

theorem witness_OutsideInstalledMemoryIsRefused_entry_chain :
    (vectorOutside 0o101000).halt = false ∧ (vectorOutside 0o101000).pi = true ∧ (vectorOutside 0o101000).piDelay = false ∧
    (tick (vectorOutside 0o101000)).dev.irq = true ∧ (vectorOutside 0o101000).extmd = false ∧
    ChainLeaves (vectorOutside 0o101000) true 0o00063 :=
  ⟨rfl, rfl, rfl, by decide, rfl, .hop _ (by decide) (.outside _ (by decide))⟩
theorem witness_OutsideInstalledMemoryIsRefused_entry_link :
    (tick (vectorOutside 0o001000)).dev.irq = true ∧ ChainEnds (vectorOutside 0o001000) true 0o00063 0o1000 ∧
    ¬ (0o1000 : Addr).toNat < (vectorOutside 0o001000).memSize :=
  ⟨by decide, .hop _ _ (by decide) (.found _), by decide⟩
theorem test_entry_outside_memory :
    refusal (step (vectorOutside 0o101000)) = some .outsideInstalledMemory ∧
    refusal (step (vectorOutside 0o001000)) = some .outsideInstalledMemory := by
  decide

theorem witness_KeysStopOnlyMemoryReferences :
    memRefOf .otk = none ∧ memRefOf (.ldx ⟨false, true, 0⟩) = some ⟨false, false, true, 0⟩ ∧
    State.dp { State.reset with dp := true } = true ∧
    (State.reset.dp = false ∧ State.extmd { State.reset with extmd := true } = true) := by
  decide

/-- An operand in location '00000, the last address word of two levels, and one in the last word of memory. -/
def operands : State := { machine 0o1001 [(0, 0o123456), (0o1100, 0o137777), (0o37777, 0o000777)] with a := 0o141206, x := 0o123456 }

theorem addresses_zero : Addresses operands ⟨false, false, false, 0⟩ 0 :=
  addresses_of rfl rfl (by decide) (by decide)
theorem addresses_last : Addresses { operands with p := 0 } ⟨false, false, true, 0o777⟩ 0o37777 :=
  addresses_of rfl rfl (by decide) (by decide)
theorem addresses_indirect : Addresses operands ⟨true, false, true, 0o100⟩ 0o0777 :=
  addresses_of rfl rfl (by decide) (by decide)
theorem operands_wf : operands.mem.wf := by decide

theorem witness_FetchSeesTheLatestStore :
    operands.mem.wf ∧ Addresses operands ⟨true, false, true, 0o100⟩ 0o0777 ∧ decode operands.a = .ok .aoa :=
  ⟨operands_wf, addresses_indirect, by decide⟩

/-! Effective addresses -/

theorem witness_EndlessChainHangs :
    memRefOf (.jmp ⟨true, false, true, 0o100⟩) = some ⟨true, false, true, 0o100⟩ ∧ selfPointing.dp = false ∧
    selfPointing.extmd = false ∧
    effectiveAddress selfPointing ⟨true, false, true, 0o100⟩ = .fault .endlessIndirect ∧
    (0o1100 : Addr).toNat < selfPointing.memSize ∧ selfPointing.mem.readWord 0o1100 = addressWord true false 0o1100 :=
  ⟨rfl, rfl, rfl, test_ea_endless, by decide, by decide⟩

theorem witness_EffectiveAddressFollowsTheWholeChain :
    effectiveAddress operands ⟨true, false, true, 0o100⟩ = .next 0o0777 := addresses_indirect.2.2.1

theorem witness_DirectAndOneLevelAddressesAreAnswered :
    effectiveAddress operands ⟨false, false, false, 0⟩ = .next 0 ∧ (0 : Addr).toNat < operands.memSize ∧
    bit1 ((operands.setMem (place [(0, 0o077777)])).mem.readWord 0) = false :=
  ⟨addresses_zero.2.2.1, by decide, by decide⟩

/-! Memory and invariants -/

theorem witness_MemReadAnswersInstalledWords :
    (0o777 : Addr).toNat < smallMemory.memSize ∧ smallMemory.memSize ≤ (0o1000 : Addr).toNat := by decide
theorem witness_MemWriteStoresOneWordAndMirrorsX :
    smallMemory.mem.wf ∧ (0o777 : Addr).toNat < smallMemory.memSize ∧ (0 : Addr).toNat < smallMemory.memSize ∧
    smallMemory.memSize ≤ (0o1000 : Addr).toNat := by decide
theorem requested_inv : requested.Inv := ⟨by decide, by decide, by decide, by decide⟩
theorem witness_StepKeepsTheInvariant : requested.Inv ∧ ∃ t, step requested = .next t :=
  ⟨requested_inv, exists_next (by decide)⟩
theorem witness_CanonicalMemoriesThatReadAlikeAreEqual :
    ∃ m n : Memory, m.wf ∧ n.wf ∧ m ≠ [] ∧ ∀ cell, m.readByte cell = n.readByte cell :=
  ⟨[(0, 1), (3, 2)], [(0, 1), (3, 2)], by decide, by decide, by decide, fun _ => rfl⟩
theorem witness_StepKeepsXEqualToLocationZero_step :
    State.Mirrored { requested with mem := place [(0o0063, 0), (0, 0o20)], x := 0o20 } ∧
    (place [(0o0063, 0), (0, 0o20)]).wf ∧
    ∃ t, step { requested with mem := place [(0o0063, 0), (0, 0o20)], x := 0o20 } = .next t :=
  ⟨by unfold State.Mirrored; decide, by decide, exists_next (by decide)⟩
theorem witness_StepKeepsXEqualToLocationZero_stores :
    (∃ t, exec (.ldx ⟨true, true, 0o100⟩) operands = .next t) ∧ ∃ t, memWrite operands 0 7 = .next t :=
  ⟨exists_next (by decide), exists_next (by decide)⟩
theorem witness_RegistersChangeOnlyWhereARuleSaysSo :
    (∃ t, exec (.irs ⟨true, false, true, 0o100⟩) operands = .next t) ∧ writesA (.irs ⟨true, false, true, 0o100⟩) = false ∧
    (∃ t, exec .enb operands = .next t) ∧ writesMemory .enb = false :=
  ⟨exists_next (by decide), rfl, exists_next (by decide), rfl⟩
theorem witness_ControlMemoryAndDevicesChangeOnlyWhereARuleSaysSo :
    (∃ t, exec (.add ⟨true, false, true, 0o100⟩) operands = .next t) ∧
    writesDevices (.add ⟨true, false, true, 0o100⟩) = false :=
  ⟨exists_next (by decide), rfl⟩

/-! The program interrupt -/

theorem witness_InterruptEntrySavesPInTheLinkWord :
    requested.mem.wf ∧ requested.halt = false ∧ requested.pi = true ∧ requested.piDelay = false ∧
    (tick requested).dev.irq = true ∧ requested.extmd = false ∧
    followIndirect requested chainFuel true 0o00063 = .next 0o1100 ∧ (0o1100 : Addr).toNat < requested.memSize :=
  ⟨by decide, rfl, rfl, rfl, by decide, rfl, eq_next_of_value (by decide), by decide⟩
theorem witness_InterruptEntrySavesPInTheLinkWord_location_zero :
    followIndirect { requested with mem := place [(0o0063, 0o000000)] } chainFuel true 0o00063 = .next 0 :=
  eq_next_of_value (by decide)
theorem witness_InterruptEntrySavesPInTheLinkWord_extmd :
    State.extmd { requested with extmd := true } = true ∧ (tick { requested with extmd := true }).dev.irq = true := by decide
theorem witness_InterruptsAreHeldOffForOneInstructionAfterEnb :
    (about 0o000401 State.reset).halt = false ∧ (∃ t, step (about 0o000401 State.reset) = .next t) ∧
    interruptRecognised (tick (about 0o000401 State.reset)) = false ∧
    decode ((about 0o000401 State.reset).mem.readWord 0o1000) = .ok .enb ∧
    State.piDelay { requested with piDelay := true } = true :=
  ⟨rfl, exists_next (by decide), by decide, by decide, rfl⟩

/-- The end of a handler: ENB, then `JMP*` through the link word, with a request standing. -/
def handlerEnd : State :=
  { machine 0o1105 [(0o1105, 0o000401), (0o1106, 0o103100), (0o1100, 0o001002)] with dev := asking }

theorem witness_EnbAndJumpIndirectReturnFromTheHandler :
    handlerEnd.halt = false ∧ handlerEnd.pi = false ∧ handlerEnd.dp = false ∧ handlerEnd.extmd = false ∧
    handlerEnd.p.toNat < handlerEnd.memSize ∧ (handlerEnd.p + 1).toNat < handlerEnd.memSize ∧
    (0o1100 : Addr).toNat < handlerEnd.memSize ∧ decode (handlerEnd.mem.readWord handlerEnd.p) = .ok .enb ∧
    decode (handlerEnd.mem.readWord (handlerEnd.p + 1)) = .ok (.jmp ⟨true, false, true, 0o100⟩) ∧
    sectorAddress { handlerEnd with p := handlerEnd.p + 2 } true 0o100 = 0o1100 ∧
    handlerEnd.mem.readWord 0o1100 = addressWord false false 0o1002 ∧ handlerEnd.dev.irq = true := by
  decide
theorem witness_MaskGatesInterruptRequests :
    ∃ r ∈ (requested.dev.smk 1).devices.requests, (1 : Word).getMsbD r.maskBit.val = r.passesWhen := by
  decide

/-! Instructions -/

theorem witness_CycleAndTimeColumns : halfCycles (.alr 63) = some 65 ∧ timeHundredths (.alr 63) = some 3120 := by decide
theorem witness_KeysGoToAAndBack : ∃ t, exec .ink operands = .next t := exists_next (by decide)
theorem witness_LoadAndLogicalOperandsReachA :
    Addresses operands ⟨false, false, false, 0⟩ 0 ∧ Addresses { operands with p := 0 } ⟨false, false, true, 0o777⟩ 0o37777 :=
  ⟨addresses_zero, addresses_last⟩
theorem witness_StoresReachTheirWordAlone :
    operands.mem.wf ∧ Addresses operands ⟨false, false, false, 0⟩ 0 ∧ Addresses operands ⟨true, false, true, 0o100⟩ 0o0777 :=
  ⟨operands_wf, addresses_zero, addresses_indirect⟩
theorem witness_InterchangeMemoryAndA : operands.mem.wf ∧ Addresses operands ⟨false, false, false, 0⟩ 0 :=
  ⟨operands_wf, addresses_zero⟩
theorem witness_LoadXAlsoWritesLocationZero :
    operands.mem.wf ∧ Addresses operands ⟨false, false, false, 0⟩ 0 ∧ Addresses operands ⟨true, false, true, 0o100⟩ 0o0777 :=
  ⟨operands_wf, addresses_zero, addresses_indirect⟩
theorem witness_AddAndSubtract : Addresses { operands with p := 0 } ⟨false, false, true, 0o777⟩ 0o37777 := addresses_last
theorem witness_InputToA_ready :
    withDevice.dev.ina ⟨0o00, 0o04⟩ = ((withDevice.dev.ina ⟨0o00, 0o04⟩).1, some 0o301) ∧
    withDevice.dev.ina ⟨0o10, 0o04⟩ = ((withDevice.dev.ina ⟨0o10, 0o04⟩).1, some 0o301) := by
  decide
theorem witness_InputToA_not_ready :
    withDevice.dev.ina ⟨0o07, 0o04⟩ = ((withDevice.dev.ina ⟨0o07, 0o04⟩).1, none) ∧ (0o07 : BitVec 4).toNat < 8 ∧
    withDevice.dev.ina ⟨0o10, 0o05⟩ = ((withDevice.dev.ina ⟨0o10, 0o05⟩).1, none) := by
  decide
theorem witness_CompareSkipsByTheSignedOrder :
    Addresses operands ⟨false, false, false, 0⟩ 0 ∧
    State.a { operands with a := 0o123457 } = operands.mem.readWord 0 + 1 ∧
    (0o123457 : Word).toInt > (operands.mem.readWord 0).toInt ∧ (0o123456 : Word) = operands.mem.readWord 0 ∧
    (0o100000 : Word).toInt < (operands.mem.readWord 0).toInt :=
  ⟨addresses_zero, by decide, by decide, by decide, by decide⟩
theorem witness_IncrementReplaceAndSkip : operands.mem.wf ∧ Addresses operands ⟨false, false, false, 0⟩ 0 :=
  ⟨operands_wf, addresses_zero⟩
theorem witness_JumpLoadsPWithTheAddress :
    smallMemory.dp = false ∧ smallMemory.extmd = false ∧ effectiveAddress smallMemory ⟨true, false, false, 0o100⟩ = .next 0o1000 :=
  ⟨rfl, rfl, eq_next_of_value (by decide)⟩
theorem witness_JumpAndStoreLocation : operands.mem.wf ∧ Addresses operands ⟨false, false, false, 0⟩ 0 :=
  ⟨operands_wf, addresses_zero⟩

/-- A JST at '01001 with the link word at '01010, and the subroutine's `JMP*` at '01013 after it. -/
def calling : State := machine 0o1002 [(0o1010, 0)]

theorem witness_JumpIndirectReturnsFromASubroutine :
    calling.mem.wf ∧ Addresses calling ⟨false, false, true, 0o010⟩ 0o1010 ∧ bit1 (calling.mem.readWord 0o1010) = false ∧
    bit2 (calling.mem.readWord 0o1010) = false ∧
    ∃ t, exec (.jst ⟨false, false, true, 0o010⟩) calling = .next t ∧
      sectorAddress { t with p := 0o1014 } true 0o010 = 0o1010 ∧ t.memSize = calling.memSize ∧ t.dp = false ∧ t.extmd = false :=
  ⟨by decide, addresses_of rfl rfl (by decide) (by decide), by decide, by decide, _,
    eq_next_of_value (v := { calling with p := 0o1011, mem := place [(0o1010, 0o001002)] }) (by decide), by decide, rfl, rfl, rfl⟩

end Sys2Proof.Tests
end

section
/-! Who writes what (00_scope.md R5): what an executed instruction can change, said once as an equation between states, and what
a step can do to memory and X. -/

namespace Sys2Proof.Machine

variable {s t : State}

/-! ## The frame of an instruction -/

/-- s with the fields that the rule of i may write taken from t: P and the count of draws for every i, the others by the lists of
who writes what. MASK is SMK's alone among the instructions that reach the devices (10_state.md R22). -/
def State.withWritten (i : Instr) (s t : State) : State :=
  { s with
    a := if writesA i then t.a else s.a
    b := if writesB i then t.b else s.b
    x := if writesMemory i then t.x else s.x
    p := t.p
    c := if writesC i then t.c else s.c
    dp := if i = .otk then t.dp else s.dp
    extmd := if i = .otk then t.extmd else s.extmd
    sc := if writesShiftCount i then t.sc else s.sc
    pi := if i = .enb ∨ i = .inh then t.pi else s.pi
    piDelay := if i = .enb then t.piDelay else s.piDelay
    halt := if i = .hlt then t.halt else s.halt
    mem := if writesMemory i then t.mem else s.mem
    dev := if writesDevices i then { t.dev with mask := if i = .smk then t.dev.mask else s.dev.mask } else s.dev
    draws := t.draws }

/-- A skip is in the frame of every instruction. -/
theorem State.withWritten_skipIf (i : Instr) (s : State) (cond : Bool) : s.withWritten i (s.skipIf cond) = s.skipIf cond := by
  simp [State.withWritten, State.skipIf_eq]

/-- MASK is taken from t for SMK alone. -/
theorem State.withWritten_mask {i : Instr} (s t : State) (hi : i ≠ .smk) : (s.withWritten i t).dev.mask = s.dev.mask := by
  simp only [State.withWritten, if_neg hi]
  split <;> rfl

/-- A shift whose steps leave B leaves B. -/
theorem shifted_b {f : ShiftRegs → ShiftRegs} (hf : ∀ r, (f r).b = r.b) (n : BitVec 6) (s : State) : (shifted f n s).b = s.b :=
  repeatStep_induct f n.toNat _ (motive := fun _ r => r.b = s.b) rfl fun _ r hr => (hf r).trans hr

/-- A step of ALS leaves B, whether the sign changes or not. -/
theorem arithLeft16_b (r : ShiftRegs) : (arithLeft16 r).b = r.b := by
  unfold arithLeft16 ShiftRegs.noteSignChange
  split <;> rfl

/-- A shift of A alone changes A, C, the Shift Count and the draws. -/
theorem shiftBy_leaves_b {f : ShiftRegs → ShiftRegs} (hf : ∀ r, (f r).b = r.b) (n : BitVec 6) (s : State) :
    shiftBy f n s = { shiftBy f n s with b := s.b } := by
  simp [shiftBy_eq, shifted_b hf]

/-- INA, ready or not, moves the devices and changes at most A, P and the draws besides (44_input_output.md R181). -/
theorem execIna_changes {io : IoAddr} (h : execIna io s = .next t) :
    ∃ a p draws, t = { s with a := a, p := p, dev := (s.dev.ina io).1, draws := draws } := by
  unfold execIna at h
  split at h
  · next hd =>
    cases h
    exact ⟨_, _, _, by rw [hd]; rfl⟩
  · next hd =>
    cases h
    split
    · exact ⟨_, _, _, by rw [hd]; rfl⟩
    · exact ⟨_, _, _, by rw [hd]; rfl⟩

/-- A read, a store of what f makes of the word to the same address, and then g: what IMA and IRS do with their operand. -/
theorem readThenWrite_eq_next {y : Addr} {f : Word → Word} {g : Word → State → State} :
    (andThen (memRead s y) fun w => andThen (memWrite s y (f w)) fun u => .next (g w u)) = .next t ↔
      y.toNat < s.memSize ∧
      t = g (s.mem.readWord y)
        { s with mem := s.mem.writeWord y (f (s.mem.readWord y)), x := if y = 0 then f (s.mem.readWord y) else s.x } := by
  simp only [andThen_eq_next, memRead_eq_next, memWrite_eq_next, Host.Outcome.next.injEq]
  constructor
  · rintro ⟨_, ⟨hy, rfl⟩, _, ⟨-, rfl⟩, rfl⟩
    exact ⟨hy, rfl⟩
  · rintro ⟨hy, rfl⟩
    exact ⟨_, ⟨hy, rfl⟩, _, ⟨hy, rfl⟩, rfl⟩

/-- The six instructions with a write store one word in installed memory, X following location '00000, and change at most P and
(IMA) A besides (20_memory.md R42, R43). -/
theorem exec_stores {i : Instr} (hw : writesMemory i = true) (h : exec i s = .next t) :
    ∃ y v, y.toNat < s.memSize ∧
      t = { s with
            mem := s.mem.writeWord y v, x := if y = 0 then v else s.x, a := if writesA i then t.a else s.a, p := t.p } := by
  cases i with
  | sta | stx =>
    obtain ⟨y, -, hs⟩ := andThen_eq_next.mp h
    obtain ⟨hy, rfl⟩ := memWrite_eq_next.mp hs
    exact ⟨y, _, hy, rfl⟩
  | ldx =>
    obtain ⟨w, -, hs⟩ := andThen_eq_next.mp h
    obtain ⟨hy, rfl⟩ := memWrite_eq_next.mp hs
    exact ⟨0, w, hy, rfl⟩
  | jst =>
    obtain ⟨y, -, hs⟩ := andThen_eq_next.mp h
    obtain ⟨hy, rfl⟩ := storeLink_eq_next.mp hs
    exact ⟨y, _, hy, rfl⟩
  | ima =>
    obtain ⟨y, -, hs⟩ := andThen_eq_next.mp h
    obtain ⟨hy, rfl⟩ := readThenWrite_eq_next.mp hs
    exact ⟨y, _, hy, rfl⟩
  | irs =>
    obtain ⟨y, -, hs⟩ := andThen_eq_next.mp h
    obtain ⟨hy, rfl⟩ := readThenWrite_eq_next.mp hs
    exact ⟨y, s.mem.readWord y + 1, hy, by rw [State.skipIf_eq]; rfl⟩
  | _ => cases hw

/-- An executed instruction changes at most the fields its rule names. -/
theorem exec_frame {i : Instr} (h : exec i s = .next t) : t = s.withWritten i t := by
  cases i with
  | hlt | ink | iab | enb | inh | skp | nop | chs | cra | ssp | rcb | csa | cma | ssm | scb | car | cal | icl | aoa | aca | icr
  | ica | tca | otk | lrl | lrs | lrr | lll | lls | llr | ocp | smk => cases h; rfl
  | src | sr4 | sr3 | sr2 | sr1 | ssr | sze | slz | spl | ssc | ss4 | ss3 | ss2 | ss1 | sss | snz | sln | smi | sks =>
    cases h; exact (State.withWritten_skipIf _ s _).symm
  | lgr | ars | arr | lgl | alr => cases h; exact shiftBy_leaves_b (by intro; rfl) _ s
  | als => cases h; exact shiftBy_leaves_b arithLeft16_b _ s
  | ota => cases h; rw [State.skipIf_eq]; rfl
  | ina =>
    obtain ⟨_, _, _, rfl⟩ := execIna_changes h
    rfl
  | lda | ana | era | add | sub | cas | jmp =>
    obtain ⟨_, -, ht⟩ := andThen_eq_next.mp h
    cases ht; rfl
  | sta | stx | ldx | jst | ima | irs =>
    obtain ⟨_, _, -, ht⟩ := exec_stores rfl h
    rw [ht]
    rfl

/-! ## One store at most -/

/-- Memory, MEMSIZE and X in t are those of s, but for at most one word stored in installed memory, which X follows if the word
is at location '00000 (20_memory.md R42). -/
def StoresAtMostOneWord (s t : State) : Prop :=
  t.memSize = s.memSize ∧
    (t.mem = s.mem ∧ t.x = s.x ∨
      ∃ y v, y.toNat < s.memSize ∧ t.mem = s.mem.writeWord y v ∧ t.x = if y = 0 then v else s.x)

theorem StoresAtMostOneWord.of_same (hn : t.memSize = s.memSize) (hm : t.mem = s.mem) (hx : t.x = s.x) :
    StoresAtMostOneWord s t :=
  ⟨hn, .inl ⟨hm, hx⟩⟩

/-- Where memory, MEMSIZE and X are the same before, and the same after, so is what was stored. -/
theorem StoresAtMostOneWord.congr {s' t' : State} (h : StoresAtMostOneWord s t)
    (hs : s'.memSize = s.memSize ∧ s'.mem = s.mem ∧ s'.x = s.x) (ht : t'.memSize = t.memSize ∧ t'.mem = t.mem ∧ t'.x = t.x) :
    StoresAtMostOneWord s' t' := by
  obtain ⟨hsn, hsm, hsx⟩ := hs
  obtain ⟨htn, htm, htx⟩ := ht
  simpa only [StoresAtMostOneWord, hsn, hsm, hsx, htn, htm, htx] using h

theorem exec_storesAtMostOneWord {i : Instr} (h : exec i s = .next t) : StoresAtMostOneWord s t := by
  cases hw : writesMemory i with
  | false =>
    rw [exec_frame h]
    exact .of_same rfl (if_neg (ne_true_of_eq_false hw)) (if_neg (ne_true_of_eq_false hw))
  | true =>
    obtain ⟨y, v, hy, ht⟩ := exec_stores hw h
    rw [ht]
    exact ⟨rfl, .inr ⟨y, v, hy, rfl, rfl⟩⟩

theorem interruptEntry_storesAtMostOneWord (h : interruptEntry s = .next t) : StoresAtMostOneWord s t := by
  obtain ⟨-, y, -, hy, rfl⟩ := interruptEntry_eq_next.mp h
  exact ⟨rfl, .inr ⟨y, _, hy, rfl, rfl⟩⟩

/-- Whatever a step does, halted, entering the interrupt or executing, it stores one word at most. -/
theorem step_storesAtMostOneWord (h : step s = .next t) : StoresAtMostOneWord s t := by
  have hs : s.memSize = (tick s).memSize ∧ s.mem = (tick s).mem ∧ s.x = (tick s).x := by simp
  rcases step_eq_next.mp h with ⟨-, -, rfl⟩ | ⟨-, -, hi⟩ | ⟨-, -, i, u, -, hu, rfl⟩
  · exact .of_same (by simp) (by simp) (by simp)
  · exact (interruptEntry_storesAtMostOneWord hi).congr hs ⟨rfl, rfl, rfl⟩
  · exact (exec_storesAtMostOneWord hu).congr hs (by rw [complete_eq]; exact ⟨rfl, rfl, rfl⟩)

/-- The invariant is about memory and MEMSIZE alone, and one word stored in installed memory keeps it. -/
theorem State.Inv.of_storesAtMostOneWord (hs : s.Inv) (h : StoresAtMostOneWord s t) : t.Inv := by
  obtain ⟨hn, ⟨hm, -⟩ | ⟨y, v, hy, hm, -⟩⟩ := h
  · exact ⟨hm ▸ hs.mem_wf, hn ▸ hs.min_size, hn ▸ hs.max_size, by rw [hm, hn]; exact hs.installed⟩
  · exact ⟨hm ▸ Memory.wf_writeWord hs.mem_wf y v, hn ▸ hs.min_size, hn ▸ hs.max_size,
      by rw [hm, hn]; exact Memory.installed_writeWord hs.installed hy v⟩

/-! ## The statements -/

/-- Settles O21, from what a step can store. -/
theorem stepKeepsTheInvariant : Obligations.StepKeepsTheInvariant :=
  fun _ _ hs h => hs.of_storesAtMostOneWord (step_storesAtMostOneWord h)

/-- Settles O25, from the frame of an executed instruction. -/
theorem registersChangeOnlyWhereARuleSaysSo : Obligations.RegistersChangeOnlyWhereARuleSaysSo := by
  intro i s t h
  rw [exec_frame h]
  exact ⟨fun hA => if_neg (ne_true_of_eq_false hA), fun hB => if_neg (ne_true_of_eq_false hB),
    fun hC => if_neg (ne_true_of_eq_false hC), fun hM => if_neg (ne_true_of_eq_false hM),
    fun hK => ⟨if_neg hK, if_neg hK⟩, fun hS => if_neg (ne_true_of_eq_false hS)⟩

/-- Settles O26, from the frame of an executed instruction. -/
theorem controlMemoryAndDevicesChangeOnlyWhereARuleSaysSo :
    Obligations.ControlMemoryAndDevicesChangeOnlyWhereARuleSaysSo := by
  intro i s t h
  rw [exec_frame h]
  exact ⟨fun hE hI => if_neg (not_or.mpr ⟨hE, hI⟩), fun hE => if_neg hE, fun hH => if_neg hH,
    fun hM => if_neg (ne_true_of_eq_false hM), State.withWritten_mask s t,
    fun hD => if_neg (ne_true_of_eq_false hD), rfl, rfl, rfl⟩

end Sys2Proof.Machine
end

section
/-! The state (10_state.md): X and location '00000, canonical memories, the keys word, and the three kinds of step (halted,
entering the program interrupt, executing). -/

namespace Sys2Proof.Machine

variable {s t : State}

/-! ## X and location '00000 (10_state.md R12) -/

/-- X follows the one word that may be stored if that is at location '00000 (20_memory.md R42), and else both stay. -/
theorem State.Mirrored.of_storesAtMostOneWord (hs : s.Mirrored) (hwf : s.mem.wf) (h : StoresAtMostOneWord s t) : t.Mirrored := by
  obtain ⟨-, ⟨hm, hx⟩ | ⟨y, v, -, hm, hx⟩⟩ := h
  · rw [State.Mirrored, hm, hx]
    exact hs
  · rw [State.Mirrored, hm, hx]
    by_cases hy : y = 0
    · rw [if_pos hy, hy, Memory.readWord_writeWord_same hwf]
    · rw [if_neg hy, Memory.readWord_writeWord_other hwf (Ne.symm hy)]
      exact hs

/-- A store to location '00000 makes X equal to it, whatever X was. -/
theorem State.mirrored_of_memWrite_zero {v : Word} (hwf : s.mem.wf) (h : memWrite s 0 v = .next t) : t.Mirrored := by
  obtain ⟨-, rfl⟩ := memWrite_eq_next.mp h
  exact (Memory.readWord_writeWord_same hwf 0 v).symm

/-- LDX ends with a store to location '00000 (40_load_store.md R105). -/
theorem State.mirrored_of_ldx {m : PlainRef} (hwf : s.mem.wf) (h : exec (.ldx m) s = .next t) : t.Mirrored := by
  obtain ⟨w, -, hstore⟩ := andThen_eq_next.mp h
  exact State.mirrored_of_memWrite_zero (s := s.setX w) hwf hstore

/-! ## Canonical memories -/

/-- A memory reads as zero below its first cell. -/
theorem Memory.firstCell_le {l cell : Nat} {v : Byte} {n : Memory}
    (h : Memory.readByte ((l, v) :: n) cell ≠ Memory.unlisted) : l ≤ cell := by
  by_contra hlt
  exact h (if_pos (Nat.not_le.mp hlt))

@[simp] theorem Memory.readByte_firstCell (k : Nat) (u : Byte) (m : Memory) : Memory.readByte ((k, u) :: m) k = u := by
  simp [Memory.readByte]

/-- What is listed behind the first cell is what the whole memory reads above that cell. -/
theorem Memory.readByte_tail {k : Nat} {u : Byte} {m : Memory} (h : Memory.wf ((k, u) :: m)) (cell : Nat) :
    m.readByte cell = if cell ≤ k then Memory.unlisted else Memory.readByte ((k, u) :: m) cell := by
  obtain ⟨hk, -, -⟩ := Memory.wf_cons_iff.mp h
  split
  · next hle => exact Memory.readByte_below fun c hc => Nat.lt_of_le_of_lt hle (hk c hc)
  · next hgt => simp [Memory.readByte, show ¬ cell < k by omega, show cell ≠ k by omega]

/-- Canonical memories that read alike begin with the same cell, which holds the same byte, and read alike behind it. -/
theorem Memory.eq_of_readByte_eq {m n : Memory} (hm : m.wf) (hn : n.wf) (h : ∀ cell, m.readByte cell = n.readByte cell) :
    m = n := by
  induction m generalizing n with
  | nil =>
    cases n with
    | nil => rfl
    | cons d n =>
      obtain ⟨-, hv, -⟩ := Memory.wf_cons_iff.mp hn
      exact absurd ((h d.1).trans (Memory.readByte_firstCell ..)).symm hv
  | cons c m ih =>
    obtain ⟨k, u⟩ := c
    obtain ⟨-, hu, hm'⟩ := Memory.wf_cons_iff.mp hm
    have hk : Memory.readByte n k = u := (h k).symm.trans (Memory.readByte_firstCell ..)
    cases n with
    | nil => exact absurd hk.symm hu
    | cons d n =>
      obtain ⟨l, v⟩ := d
      obtain ⟨-, hv, hn'⟩ := Memory.wf_cons_iff.mp hn
      have hl : Memory.readByte ((k, u) :: m) l = v := (h l).trans (Memory.readByte_firstCell ..)
      obtain rfl : k = l := Nat.le_antisymm (Memory.firstCell_le (hl ▸ hv)) (Memory.firstCell_le (hk ▸ hu))
      obtain rfl : u = v := (Memory.readByte_firstCell ..).symm.trans hl
      have tails : m = n := ih hm' hn' fun cell => by rw [Memory.readByte_tail hm, Memory.readByte_tail hn, h]
      rw [tails]

/-! ## The keys word (10_state.md R15) -/

/-- Bit vectors side by side, as a number. -/
theorem toNat_append_eq_add {m n : Nat} (x : BitVec m) (y : BitVec n) : (x ++ y).toNat = x.toNat * 2 ^ n + y.toNat := by
  rw [BitVec.toNat_append, ← Nat.shiftLeft_add_eq_or_of_lt y.isLt, Nat.shiftLeft_eq]

theorem keysWord_toNat (s : State) :
    (keysWord s).toNat = s.c.toNat * 0o100000 + s.dp.toNat * 0o040000 + s.extmd.toNat * 0o020000 + s.sc.toNat := by
  simp only [keysWord, toNat_append_eq_add, BitVec.toNat_ofBool, BitVec.toNat_zero]
  omega

theorem bit1_keysWord (s : State) : bit1 (keysWord s) = s.c := by
  simp only [bit1, keysWord, BitVec.getLsbD_append]
  simp

theorem bit2_keysWord (s : State) : bit2 (keysWord s) = s.dp := by
  simp only [bit2, keysWord, BitVec.getLsbD_append]
  simp

theorem bit3_keysWord (s : State) : bit3 (keysWord s) = s.extmd := by
  simp only [bit3, keysWord, BitVec.getLsbD_append]
  simp

theorem extractLsb'_keysWord (s : State) : (keysWord s).extractLsb' 0 5 = s.sc := by
  rw [keysWord, BitVec.extractLsb'_append_eq_of_add_le (by decide), BitVec.extractLsb'_eq_self]

/-- The keys taken apart: bits 1, 2, 3 and 12-16 of the word (40_load_store.md R106). -/
theorem State.setKeysWord_eq (s : State) (w : Word) :
    s.setKeysWord w =
      { s with c := w.getMsbD 0, dp := w.getMsbD 1, extmd := w.getMsbD 2, sc := BitVec.ofNat 5 (w.toNat % 0o40) } := by
  have hsc : w.extractLsb' 0 5 = BitVec.ofNat 5 (w.toNat % 0o40) := by
    apply BitVec.eq_of_toNat_eq
    simp
  rw [State.setKeysWord, State.setKeys, hsc]
  rfl

/-- INK's word holds the keys themselves, so taking it apart changes nothing. -/
theorem State.setKeysWord_keysWord (s : State) : s.setKeysWord (keysWord s) = s := by
  rw [State.setKeysWord, bit1_keysWord, bit2_keysWord, bit3_keysWord, extractLsb'_keysWord]
  rfl

/-! ## The surroundings' move -/

theorem tick_of_noMove (ho : s.operator.next = none) : tick s = { s with dev := s.dev.tick } := by
  rw [tick, ho]

theorem tick_of_move {move : OperatorMove} {op : Operator} (ho : s.operator.next = some (move, op)) :
    tick s =
      { s with switches := move.switches, halt := s.halt && !move.start, operator := op, dev := s.dev.tick } := by
  rw [tick, ho]

/-- START or not, a running machine runs on (log 10). -/
theorem tick_running_of_move {move : OperatorMove} {op : Operator} (hs : s.halt = false)
    (ho : s.operator.next = some (move, op)) :
    tick s = { s with switches := move.switches, operator := op, dev := s.dev.tick } := by
  rw [tick_of_move ho, hs, Bool.false_and, ← hs]

/-! ## A halted machine -/

theorem step_halted_of_noMove (hs : s.halt = true) (ho : s.operator.next = none) : step s = .fault .halted := by
  rw [step, if_pos hs, idle, ho]

theorem step_halted_of_move {move : OperatorMove} {op : Operator} (hs : s.halt = true)
    (ho : s.operator.next = some (move, op)) :
    step s = .next { s with halt := !move.start, switches := move.switches, operator := op, dev := s.dev.tick } := by
  rw [step, if_pos hs, idle, ho, tick_of_move ho, hs, Bool.true_and]

/-! ## A running machine -/

/-- The surroundings do not halt a running machine, so HALT does not hold the interrupt back (60_exceptions.md R265). -/
theorem interruptRecognised_tick (hs : s.halt = false) :
    interruptRecognised (tick s) = true ↔ (tick s).pi = true ∧ (tick s).piDelay = false ∧ (tick s).dev.irq = true := by
  simp [interruptRecognised, tick_running hs, and_assoc]

theorem step_interrupted (hs : s.halt = false) (hi : interruptRecognised (tick s) = true) :
    step s = interruptEntry (tick s) := by
  rw [step, if_neg (ne_true_of_eq_false hs), if_pos hi]

theorem step_uninterrupted {i : Instr} (hs : s.halt = false) (hi : interruptRecognised (tick s) = false)
    (hf : fetchDecode (tick s) = .next i) :
    step s = andThen (exec i (advance (tick s))) fun t => .next (complete i t) := by
  rw [step, if_neg (ne_true_of_eq_false hs), if_neg (ne_true_of_eq_false hi), hf, andThen_next]

/-- The surroundings' move does not change the word that is fetched. -/
theorem fetchDecode_tick {i : Instr} (hp : s.p.toNat < s.memSize) (hd : decode (s.mem.readWord s.p) = .ok i) :
    fetchDecode (tick s) = .next i :=
  fetchDecode_eq_next.mpr (by simpa using ⟨hp, hd⟩)

theorem advance_tick (s : State) : advance (tick s) = { tick s with p := s.p + 1 } := by
  rw [advance, tick_p]
  rfl

/-! ## The statements -/

/-- Settles O24, from what a step can store. -/
theorem stepKeepsXEqualToLocationZero : Obligations.StepKeepsXEqualToLocationZero :=
  ⟨fun _ _ hwf hs h => hs.of_storesAtMostOneWord hwf (step_storesAtMostOneWord h),
    fun _ _ _ => State.mirrored_of_ldx, fun _ _ _ => State.mirrored_of_memWrite_zero⟩

/-- Settles O23, by induction on the list of cells. -/
theorem canonicalMemoriesThatReadAlikeAreEqual : Obligations.CanonicalMemoriesThatReadAlikeAreEqual :=
  fun _ _ => Memory.eq_of_readByte_eq

/-- Settles O33, from what the keys word holds and what taking it apart sets. -/
theorem keysGoToAAndBack : Obligations.KeysGoToAAndBack := by
  refine ⟨⟨by decide, rfl, rfl⟩, ⟨by decide, rfl, rfl⟩, fun s => ⟨keysWord s, rfl, keysWord_toNat s⟩,
    fun s => congrArg _ (s.setKeysWord_eq s.a), fun s t h => ?_⟩
  cases h
  exact congrArg _ (s.setA (keysWord s)).setKeysWord_keysWord

/-- Settles O11, from the kinds of step and the kinds of operator. -/
theorem stepRunsTheDecodedInstruction : Obligations.StepRunsTheDecodedInstruction := by
  refine ⟨?halted, ?interrupted, ?executed, ?noMove, ?listedMove, ?arbitraryMove, fun dv => ⟨dv.tick_mask, dv.tick_record⟩⟩
  case halted => exact fun s hs ho => step_halted_of_noMove hs (congrArg Operator.next ho)
  case interrupted => exact fun s hs hi => step_interrupted hs ((interruptRecognised_tick hs).mpr hi)
  case executed =>
    intro s i hs hi hp hd
    have hn : interruptRecognised (tick s) = false :=
      eq_false_of_ne_true fun hr => hi ((interruptRecognised_tick hs).mp hr)
    rw [step_uninterrupted hs hn (fetchDecode_tick hp hd), advance_tick]
    simp only [complete_eq]
  case noMove => exact fun s ho => tick_of_noMove (congrArg Operator.next ho)
  case listedMove => exact fun s move rest hs ho => tick_running_of_move hs (congrArg Operator.next ho)
  case arbitraryMove => exact fun s who moves hs ho => ⟨_, tick_running_of_move hs (congrArg Operator.next ho)⟩

/-- Settles O12, from the step of a halted machine under each kind of operator. -/
theorem haltLastsUntilStart : Obligations.HaltLastsUntilStart :=
  ⟨fun _ hs ho => step_halted_of_noMove hs (congrArg Operator.next ho),
    fun _ _ _ hs ho => step_halted_of_move hs (congrArg Operator.next ho),
    fun _ _ _ hs ho => ⟨_, _, step_halted_of_move hs (congrArg Operator.next ho)⟩⟩

/-- Settles O22: nothing is listed, and MEMSIZE has its default. -/
theorem resetSatisfiesTheInvariant : Obligations.ResetSatisfiesTheInvariant where
  mem_wf := State.reset_mem_wf
  min_size := by decide
  max_size := Nat.le_refl _
  installed := List.forall_mem_nil _

end Sys2Proof.Machine
end

section
/-! Memory (20_memory.md): a read and a write on both sides of MEMSIZE, the fetch of a stored word, the link word of an interrupt
entry; and, for the accesses that fall outside installed memory, what the indirect chain of 30_encoding.md R66 comes to. -/

namespace Sys2Proof.Machine

variable {s : State}

/-! ## Indirect chains (30_encoding.md R66) -/

/-- The address that the address word at y leads to. -/
def chainNext (s : State) (y : Addr) : Addr := indexIf s (bit2 (s.mem.readWord y)) (addressField (s.mem.readWord y))

/-- The address word at y is installed, and calls for another. -/
def PassesOn (s : State) (y : Addr) : Prop := y.toNat < s.memSize ∧ bit1 (s.mem.readWord y) = true

theorem followIndirect_installed {y : Addr} (hy : y.toNat < s.memSize) (fuel : Nat) :
    followIndirect s (fuel + 1) true y = followIndirect s fuel (bit1 (s.mem.readWord y)) (chainNext s y) := by
  rw [followIndirect_succ, memRead_installed hy]
  rfl

theorem followIndirect_outside {y : Addr} (hy : ¬ y.toNat < s.memSize) (fuel : Nat) :
    followIndirect s (fuel + 1) true y = .refused .outsideInstalledMemory := by
  rw [followIndirect_succ, memRead_outside hy]
  rfl

/-- The room runs out exactly for the chains that go on for as many address words. -/
theorem followIndirect_eq_fault {fuel : Nat} {i : Bool} {y : Addr} :
    followIndirect s fuel i y = .fault .endlessIndirect ↔ chainGoesOn s fuel i y := by
  induction fuel generalizing i y with
  | zero => cases i <;> simp [chainGoesOn]
  | succ fuel ih =>
    cases i with
    | false => simp [chainGoesOn]
    | true =>
      by_cases hy : y.toNat < s.memSize
      · rw [followIndirect_installed hy, ih, chainGoesOn, and_iff_right hy, chainNext]
      · simp [followIndirect_outside hy, chainGoesOn, hy]

/-- Once the room has not run out, more of it changes nothing. -/
theorem followIndirect_of_le {n k : Nat} (hle : n ≤ k) {i : Bool} {y : Addr}
    (h : followIndirect s n i y ≠ .fault .endlessIndirect) : followIndirect s k i y = followIndirect s n i y := by
  induction n generalizing k i y with
  | zero =>
    cases i with
    | false => simp
    | true => exact absurd rfl h
  | succ n ih =>
    cases i with
    | false => simp
    | true =>
      obtain ⟨k, rfl⟩ : ∃ j, k = j + 1 := ⟨k - 1, by omega⟩
      by_cases hy : y.toNat < s.memSize
      · rw [followIndirect_installed hy] at h ⊢
        rw [followIndirect_installed hy, ih (by omega) h]
      · rw [followIndirect_outside hy, followIndirect_outside hy]

/-- A chain goes on for k address words when each of the first k addresses holds one that calls for another. -/
theorem chainGoesOn_iff {k : Nat} {y : Addr} : chainGoesOn s k true y ↔ ∀ j < k, PassesOn s ((chainNext s)^[j] y) := by
  induction k generalizing y with
  | zero => simp [chainGoesOn]
  | succ k ih =>
    have rest : chainGoesOn s k (bit1 (s.mem.readWord y)) (chainNext s y) ↔
        bit1 (s.mem.readWord y) = true ∧ ∀ j < k, PassesOn s ((chainNext s)^[j] (chainNext s y)) := by
      cases hb : bit1 (s.mem.readWord y) with
      | false => cases k <;> simp [chainGoesOn]
      | true => simp [ih]
    rw [chainGoesOn, ← chainNext, rest, ← and_assoc]
    exact (Nat.forall_lt_succ_left (p := fun j => PassesOn s ((chainNext s)^[j] y))).symm

/-- Among 2^14 + 1 addresses two are the same. -/
theorem exists_lt_eq_of_addresses (f : Nat → Addr) : ∃ a b, a < b ∧ b ≤ chainFuel ∧ f a = f b := by
  obtain ⟨a, ha, b, hb, hne, heq⟩ := Finset.exists_ne_map_eq_of_card_lt_of_maps_to
    (s := Finset.range (chainFuel + 1)) (t := Finset.range chainFuel) (f := fun j => (f j).toNat) (by simp)
    fun j _ => Finset.mem_range.mpr (f j).isLt
  have heq : f a = f b := BitVec.eq_of_toNat_eq heq
  rw [Finset.mem_range, Nat.lt_succ_iff] at ha hb
  rcases Nat.lt_or_gt_of_ne hne with hlt | hlt
  · exact ⟨a, b, hlt, hb, heq⟩
  · exact ⟨b, a, hlt, ha, heq.symm⟩

/-- Addresses each of which leads to the next are all among the first 2^14. -/
theorem iterate_mem_first (f : Addr → Addr) (y : Addr) (n : Nat) : ∃ j < chainFuel, f^[n] y = f^[j] y := by
  obtain ⟨a, b, hab, hb, heq⟩ := exists_lt_eq_of_addresses fun j => f^[j] y
  have before_b : ∃ j < b, f^[n] y = f^[j] y := by
    induction n with
    | zero => exact ⟨0, by omega, rfl⟩
    | succ n ih =>
      obtain ⟨j, hj, hn⟩ := ih
      have next : f^[n + 1] y = f^[j + 1] y := by
        rw [Function.iterate_succ_apply', hn, Function.iterate_succ_apply']
      rcases Nat.lt_or_eq_of_le (Nat.succ_le_of_lt hj) with hlt | rfl
      · exact ⟨j + 1, hlt, next⟩
      · exact ⟨a, hab, next.trans heq.symm⟩
  obtain ⟨j, hj, hn⟩ := before_b
  exact ⟨j, Nat.lt_of_lt_of_le hj hb, hn⟩

/-- A chain that goes on for 2^14 address words goes on for ever: it has come back to an address (log 11). -/
theorem chainGoesOn_forever {i : Bool} {y : Addr} (h : chainGoesOn s chainFuel i y) (k : Nat) : chainGoesOn s k i y := by
  cases i with
  | false => simp [chainGoesOn] at h
  | true =>
    refine chainGoesOn_iff.mpr fun n _ => ?_
    obtain ⟨j, hj, hn⟩ := iterate_mem_first (chainNext s) y n
    exact hn ▸ chainGoesOn_iff.mp h j hj

/-- 2^14 address words are room enough: what any room answers, this one does. -/
theorem followIndirect_chainFuel {n : Nat} {i : Bool} {y : Addr} (h : followIndirect s n i y ≠ .fault .endlessIndirect) :
    followIndirect s chainFuel i y = followIndirect s n i y := by
  have enough : followIndirect s chainFuel i y ≠ .fault .endlessIndirect := fun hf =>
    h (followIndirect_eq_fault.mpr (chainGoesOn_forever (followIndirect_eq_fault.mp hf) n))
  rcases Nat.le_total n chainFuel with hle | hle
  · exact followIndirect_of_le hle h
  · exact (followIndirect_of_le hle enough).symm

/-- A chain that ends is answered, however long it is. -/
theorem followIndirect_of_chainEnds {i : Bool} {y z : Addr} (h : ChainEnds s i y z) :
    followIndirect s chainFuel i y = .next z := by
  obtain ⟨n, hn⟩ : ∃ n, followIndirect s n i y = .next z := by
    induction h with
    | found y => exact ⟨0, rfl⟩
    | hop y z hy _ ih =>
      obtain ⟨n, hn⟩ := ih
      exact ⟨n + 1, (followIndirect_installed hy n).trans hn⟩
  rw [followIndirect_chainFuel (n := n) (by simp [hn]), hn]

/-- A chain that comes to an address word outside installed memory is refused, however late it does. -/
theorem followIndirect_of_chainLeaves {i : Bool} {y : Addr} (h : ChainLeaves s i y) :
    followIndirect s chainFuel i y = .refused .outsideInstalledMemory := by
  obtain ⟨n, hn⟩ : ∃ n, followIndirect s n i y = .refused .outsideInstalledMemory := by
    induction h with
    | outside y hy => exact ⟨1, followIndirect_outside hy 0⟩
    | hop y hy _ ih =>
      obtain ⟨n, hn⟩ := ih
      exact ⟨n + 1, (followIndirect_installed hy n).trans hn⟩
  rw [followIndirect_chainFuel (n := n) (by simp [hn]), hn]

theorem effectiveAddress_eq_refused {m : MemRef} :
    effectiveAddress s m = .refused .outsideInstalledMemory ↔
      ChainLeaves s m.indirect (indexIf s m.indexed (sectorAddress s m.ownSector m.disp)) :=
  ⟨chainLeaves_of_refused, followIndirect_of_chainLeaves⟩

/-! ## The operand of an MR-type instruction -/

theorem andThen_assoc {α β γ : Type} (r : Result α) (f : α → Result β) (g : β → Result γ) :
    andThen (andThen r f) g = andThen r fun v => andThen (f v) g := by
  cases r <;> rfl

theorem storeLink_outside {y : Addr} (hy : ¬ y.toNat < s.memSize) : storeLink s y = .refused .outsideInstalledMemory := by
  rw [storeLink, memRead_outside hy, andThen_refused]

/-- Every MR-type instruction begins with its operand's address, and all but JMP then access the word at it. -/
theorem exec_memRef {i : Instr} {m : MemRef} (hm : memRefOf i = some m) (s : State) :
    ∃ rest : Addr → Result State, exec i s = andThen (operandAddress s m) rest ∧
      (i ≠ .jmp m → ∀ y, ¬ y.toNat < s.memSize → rest y = .refused .outsideInstalledMemory) := by
  cases i with
  | jmp => cases hm; exact ⟨_, rfl, fun hj => absurd rfl hj⟩
  | sta | stx => cases hm; exact ⟨_, rfl, fun _ y hy => memWrite_outside hy _⟩
  | jst => cases hm; exact ⟨_, rfl, fun _ y hy => storeLink_outside hy⟩
  | irs | ima => cases hm; exact ⟨_, rfl, fun _ y hy => by rw [memRead_outside hy, andThen_refused]⟩
  | lda | ana | era | add | sub | cas | ldx =>
    cases hm
    exact ⟨_, andThen_assoc .., fun _ y hy => by rw [memRead_outside hy, andThen_refused]⟩
  | _ => cases hm

/-- STA is the checks, the address, and one write (40_load_store.md R107). -/
theorem exec_sta_of_addresses {m : MemRef} {y : Addr} (h : Addresses s m y) :
    exec (.sta m) s = .next { s with mem := s.mem.writeWord y s.a, x := if y = 0 then s.a else s.x } := by
  have ⟨_, _, _, hy⟩ := h
  change andThen (operandAddress s m) (memWrite s · s.a) = _
  rw [operandAddress_of_addresses h, andThen_next, memWrite_installed hy]

/-! ## The instruction cycle -/

theorem fetchDecode_outside (hp : ¬ s.p.toNat < s.memSize) : fetchDecode s = .refused .outsideInstalledMemory := by
  rw [fetchDecode, memRead_outside hp, andThen_refused]

theorem step_of_fetch_refused {why : Refusal} (hs : aboutToFetch s) (hf : fetchDecode (tick s) = .refused why) :
    step s = .refused why := by
  obtain ⟨hh, hi⟩ := hs
  rw [step, if_neg (ne_true_of_eq_false hh), if_neg (ne_true_of_eq_false hi), hf, andThen_refused]

/-- A request that reaches a running machine with interrupts permitted is recognised (60_exceptions.md R265). -/
theorem step_of_request (hh : s.halt = false) (hp : s.pi = true) (hd : s.piDelay = false) (hr : (tick s).dev.irq = true) :
    step s = interruptEntry (tick s) :=
  step_interrupted hh ((interruptRecognised_tick hh).mpr ⟨by simpa using hp, by simpa using hd, hr⟩)

/-! ## Interrupt entry (60_exceptions.md R268) -/

/-- The surroundings' move does not change where a chain leads. -/
theorem followIndirect_tick (fuel : Nat) (i : Bool) (y : Addr) :
    followIndirect (tick s) fuel i y = followIndirect s fuel i y :=
  followIndirect_congr (tick_mem s) (tick_memSize s) (tick_x s) fuel i y

theorem interruptEntry_extmd (he : s.extmd = true) : interruptEntry s = .refused .extmdSet := by
  rw [interruptEntry, if_pos he]

theorem interruptEntry_of_chain_refused {why : Refusal} (he : s.extmd = false)
    (h : followIndirect s chainFuel true intVector = .refused why) : interruptEntry s = .refused why := by
  rw [interruptEntry, if_neg (ne_true_of_eq_false he), h, andThen_refused]

theorem interruptEntry_of_link_outside {y : Addr} (he : s.extmd = false)
    (h : followIndirect s chainFuel true intVector = .next y) (hy : ¬ y.toNat < s.memSize) :
    interruptEntry s = .refused .outsideInstalledMemory := by
  rw [interruptEntry, if_neg (ne_true_of_eq_false he), h, andThen_next, storeLink_outside hy, andThen_refused]

/-! ## The statements -/

/-- Settles O13, clause by clause: the fetch, the operand, the address words, and the interrupt's chain and link word. -/
theorem outsideInstalledMemoryIsRefused : Obligations.OutsideInstalledMemoryIsRefused := by
  refine ⟨?fetch, ?operand, fun s m => effectiveAddress_eq_refused, ?addressWord, ?interrupt⟩
  case fetch => exact fun s hs hp => step_of_fetch_refused hs (fetchDecode_outside (by simpa using hp))
  case operand =>
    intro i m s y hm hj hd he hy hn
    obtain ⟨rest, hexec, hrest⟩ := exec_memRef hm s
    rw [hexec, operandAddress_of_keys hd he, hy, andThen_next, hrest hj y hn]
  case addressWord =>
    intro i m s hm hd he hr
    obtain ⟨rest, hexec, -⟩ := exec_memRef hm s
    rw [hexec, operandAddress_of_keys hd he, hr, andThen_refused]
  case interrupt =>
    intro s hh hp hd hr he hchain
    have he' : (tick s).extmd = false := by simpa using he
    rw [step_of_request hh hp hd hr]
    rcases hchain with hl | ⟨y, hy, hn⟩
    · exact interruptEntry_of_chain_refused he' ((followIndirect_tick ..).trans (followIndirect_of_chainLeaves hl))
    · exact interruptEntry_of_link_outside he' ((followIndirect_tick ..).trans (followIndirect_of_chainEnds hy))
        (by simpa using hn)

/-- Settles O15: STA is one write, and the fetch reads the word it left. -/
theorem fetchSeesTheLatestStore : Obligations.FetchSeesTheLatestStore := by
  intro s m y i hwf ha hi
  have ⟨_, _, _, hy⟩ := ha
  have fetched : decode ((s.mem.writeWord y s.a).readWord y) = .ok i := by
    rw [Memory.readWord_writeWord_same hwf, hi]
  exact ⟨_, exec_sta_of_addresses ha, fetchDecode_eq_next.mpr ⟨hy, fetched⟩⟩

/-- Settles O20, from the state after a write. -/
theorem memWriteStoresOneWordAndMirrorsX : Obligations.MemWriteStoresOneWordAndMirrorsX :=
  fun _ _ v hwf =>
    ⟨fun hy => ⟨_, memWrite_installed hy v, stored_of_writeWord hwf rfl rfl, rfl⟩,
      fun hy => memWrite_outside (Nat.not_lt.mpr hy) v⟩

/-- Settles O27, from the state after an interrupt entry. -/
theorem interruptEntrySavesPInTheLinkWord : Obligations.InterruptEntrySavesPInTheLinkWord := by
  refine ⟨?entered, ?refused⟩
  case entered =>
    intro s y hwf hh hp hd hr he hy hn
    have entry := interruptEntry_eq_next.mpr
      ⟨by simpa using he, y, (followIndirect_tick ..).trans hy, by simpa using hn, rfl⟩
    exact ⟨_, (step_of_request hh hp hd hr).trans entry, stored_of_writeWord hwf (by simp) (by simp), rfl⟩
  case refused =>
    intro s hh hp hd hr he
    rw [step_of_request hh hp hd hr, interruptEntry_extmd (by simpa using he)]

/-- Settles O19: both sides of MEMSIZE. -/
theorem memReadAnswersInstalledWords : Obligations.MemReadAnswersInstalledWords :=
  fun _ _ => ⟨memRead_installed, fun hy => memRead_outside (Nat.not_lt.mpr hy)⟩

end Sys2Proof.Machine
end

section
/-! The decoder and the encoder (30_encoding.md R62 to R75): which words a row of the opcode table accepts, that no two rows but
OTA's and the two exact words inside it accept a common word, and so what decoding answers. -/

namespace Sys2Proof

/-! ## The words a row accepts -/

theorem Row.accepts_iff {r : Row} {w : Word} : r.accepts w = true ↔ w &&& r.mask = r.pattern := beq_iff_eq

/-- The row of an exact word accepts that word alone. -/
theorem Row.accepts_exact {r : Row} {w : Word} (hmask : r.mask = 0xFFFF) : r.accepts w = true ↔ w = r.pattern := by
  rw [Row.accepts_iff, hmask]
  exact Eq.congr_left (BitVec.and_allOnes (x := w))

/-- A mask of n one-bits from bit position j up looks at the field of n bits there. -/
theorem and_fieldMask_eq_iff (j : Nat) {n : Nat} (hj : j + n ≤ 16) (w : Word) (op : BitVec n) :
    w &&& (BitVec.allOnes n).setWidth 16 <<< j = op.setWidth 16 <<< j ↔ w.extractLsb' j n = op := by
  constructor
  · intro h
    apply BitVec.eq_of_getLsbD_eq
    intro k hk
    have bit := congrArg (BitVec.getLsbD · (j + k)) h
    simpa [hk, show j + k < 16 by omega] using bit
  · rintro rfl
    apply BitVec.eq_of_getLsbD_eq
    intro k hk
    by_cases hkj : k < j
    · simp [hkj]
    · by_cases hn : k - j < n
      · simp [hkj, hn, hk, show j + (k - j) = k by omega]
      · simp [hn]

section Accepts

variable {mnemonic : String} {w : Word}

theorem genericRow_accepts {word : Word} {i : Instr} : (genericRow mnemonic word i).accepts w = true ↔ w = word :=
  Row.accepts_exact rfl

theorem memRefRow_accepts {op : BitVec 4} {build : MemRef → Instr} :
    (memRefRow mnemonic op build).accepts w = true ↔ w.extractLsb' 10 4 = op :=
  Row.accepts_iff.trans (and_fieldMask_eq_iff 10 (by decide) w op)

theorem plainRefRow_accepts {op : BitVec 5} {build : PlainRef → Instr} :
    (plainRefRow mnemonic op build).accepts w = true ↔ w.extractLsb' 10 5 = op :=
  Row.accepts_iff.trans (and_fieldMask_eq_iff 10 (by decide) w op)

theorem shiftRow_accepts {op : BitVec 10} {build : BitVec 6 → Instr} :
    (shiftRow mnemonic op build).accepts w = true ↔ w.extractLsb' 6 10 = op :=
  Row.accepts_iff.trans (and_fieldMask_eq_iff 6 (by decide) w op)

theorem ioRow_accepts {op : BitVec 6} {build : IoAddr → Instr} :
    (ioRow mnemonic op build).accepts w = true ↔ w.extractLsb' 10 6 = op :=
  Row.accepts_iff.trans (and_fieldMask_eq_iff 10 (by decide) w op)

end Accepts

/-! ## A word put together again from its fields -/

theorem memRefWord_memRefField (w : Word) : memRefWord (w.extractLsb' 10 4) (memRefField w) = w := by
  apply BitVec.eq_of_getLsbD_eq
  intro k hk
  rw [memRefWord_getLsbD]
  interval_cases k <;> simp [memRefField, bit1, bit2, bit7, dispField]

theorem plainRefWord_plainRefField {w : Word} {t : Bool} (h : w.extractLsb' 10 5 = BitVec.ofBool t ++ 0o15#4) :
    plainRefWord t (plainRefField w) = w := by
  have hop : w.extractLsb' 10 4 = 0o15#4 := by
    have low : w.extractLsb' 10 4 = (w.extractLsb' 10 5).extractLsb' 0 4 := by
      apply BitVec.eq_of_getLsbD_eq
      intro k hk
      simp [hk, show k < 5 by omega]
    rw [low, h]
    cases t <;> rfl
  have ht : bit2 w = t := by
    have top : bit2 w = (w.extractLsb' 10 5).getLsbD 4 := by simp [bit2]
    rw [top, h]
    cases t <;> rfl
  calc plainRefWord t (plainRefField w) = memRefWord (w.extractLsb' 10 4) (memRefField w) := by
        rw [hop, memRefField, ht]
        rfl
    _ = w := memRefWord_memRefField w

theorem shiftWord_countField (w : Word) : shiftWord (w.extractLsb' 6 10) (countField w) = w := by
  apply BitVec.eq_of_getLsbD_eq
  intro k hk
  rw [shiftWord_getLsbD, countField, BitVec.neg_neg]
  interval_cases k <;> simp

theorem ioWord_ioField (w : Word) : ioWord (w.extractLsb' 10 6) (ioField w) = w := by
  apply BitVec.eq_of_getLsbD_eq
  intro k hk
  rw [ioWord_getLsbD]
  interval_cases k <;> simp [ioField]

/-! ## The table: OTA's row, and the rows before it -/

/-- The last row, and the only one that accepts words of other rows too. -/
def otaRow : Row := ioRow "OTA" 0o74 .ota

/-- The 71 rows before OTA's. -/
def rowsBeforeOta : List Row := genericSkipRows ++ genericRegisterRows ++ memRefRows ++ shiftRows ++ ioRows.dropLast

theorem opcodeTable_eq : opcodeTable = rowsBeforeOta ++ [otaRow] := rfl

theorem mem_opcodeTable {r : Row} : r ∈ opcodeTable ↔ r ∈ rowsBeforeOta ∨ r = otaRow := by
  rw [opcodeTable_eq, List.mem_append, List.mem_singleton]

/-- The rows may accept a common word: where both masks have a one-bit, the two patterns agree. -/
def Row.meets (r r' : Row) : Bool := r.pattern &&& r'.mask == r'.pattern &&& r.mask

theorem Row.meets_symm {r r' : Row} (h : r.meets r' = false) : r'.meets r = false := by
  rwa [Row.meets, Bool.beq_comm]

theorem Row.meets_of_accepts {r r' : Row} {w : Word} (h : r.accepts w = true) (h' : r'.accepts w = true) :
    r.meets r' = true := by
  rw [Row.accepts_iff] at h h'
  rw [Row.meets, ← h, ← h', beq_iff_eq, BitVec.and_assoc, BitVec.and_assoc, BitVec.and_comm r.mask]

/-- No two rows before OTA's have a word in common. -/
theorem rowsBeforeOta_disjoint : rowsBeforeOta.Pairwise fun r r' => r.meets r' = false := by decide

/-- The rows that have words in common with OTA's are two exact words. -/
theorem meets_otaRow : ∀ r ∈ rowsBeforeOta, r.meets otaRow = true →
    r.mask = 0xFFFF ∧ (r.pattern = 0o170020 ∧ r.mnemonic = "SMK" ∨ r.pattern = 0o171020 ∧ r.mnemonic = "OTK") := by
  decide

/-- The two rows inside OTA's (R74). -/
theorem mnemonic_of_otaRow_accepts {r : Row} {w : Word} (hr : r ∈ rowsBeforeOta)
    (h : r.accepts w = true) (hota : otaRow.accepts w = true) : r.mnemonic = "SMK" ∨ r.mnemonic = "OTK" :=
  (meets_otaRow r hr (Row.meets_of_accepts h hota)).2.imp And.right And.right

/-- A word has at most one row before OTA's. -/
theorem eq_of_accepts {r r' : Row} {w : Word} (hr : r ∈ rowsBeforeOta) (hr' : r' ∈ rowsBeforeOta)
    (h : r.accepts w = true) (h' : r'.accepts w = true) : r = r' := by
  by_contra hne
  have : Std.Symm fun r r' : Row => r.meets r' = false := ⟨fun _ _ => Row.meets_symm⟩
  have apart := rowsBeforeOta_disjoint.forall hr hr' hne
  rw [Row.meets_of_accepts h h'] at apart
  cases apart

/-! ## What decoding answers (R74) -/

/-- A word of a row before OTA's decodes by that row. -/
theorem decode_of_accepts {r : Row} {w : Word} (hr : r ∈ rowsBeforeOta) (h : r.accepts w = true) :
    decode w = .ok (r.build w) := by
  obtain ⟨first, hf⟩ : ∃ first, rowsBeforeOta.find? (fun r => r.accepts w) = some first :=
    Option.isSome_iff_exists.mp (List.find?_isSome.mpr ⟨r, hr, h⟩)
  have hfirst : first.accepts w = true := List.find?_some (p := fun r : Row => r.accepts w) hf
  obtain rfl : first = r := eq_of_accepts (List.mem_of_find?_eq_some hf) hr hfirst h
  rw [decode, opcodeTable_eq, List.find?_append, hf]
  rfl

/-- A word of OTA's row that no row before it accepts is an OTA. -/
theorem decode_of_otaRow_alone {w : Word} (h : otaRow.accepts w = true)
    (alone : ∀ r ∈ rowsBeforeOta, ¬ r.accepts w = true) : decode w = .ok (.ota (ioField w)) := by
  rw [decode, opcodeTable_eq, List.find?_append, List.find?_eq_none.mpr alone, Option.none_or, List.find?_singleton, if_pos h]
  rfl

theorem decode_of_otaRow {w : Word} (h : otaRow.accepts w = true) (hsmk : w ≠ 0o170020) (hotk : w ≠ 0o171020) :
    decode w = .ok (.ota (ioField w)) := by
  refine decode_of_otaRow_alone h fun r hr hacc => ?_
  obtain ⟨hmask, hpattern⟩ := meets_otaRow r hr (Row.meets_of_accepts hacc h)
  have hw := (Row.accepts_exact hmask).mp hacc
  rcases hpattern with ⟨hp, -⟩ | ⟨hp, -⟩
  · exact hsmk (hw.trans hp)
  · exact hotk (hw.trans hp)

/-- A word is undefined exactly if no row accepts it. -/
theorem decode_eq_error_iff {w : Word} : (∃ why, decode w = .error why) ↔ ∀ r ∈ opcodeTable, ¬ r.accepts w = true := by
  rw [← List.find?_eq_none, decode]
  split
  · next hf => simp [hf]
  · next hf => simp [hf]

/-- What decodes is a word of a row before OTA's, or a word of OTA's that is neither SMK's nor OTK's. -/
theorem row_of_decode {w : Word} {i : Instr} (h : decode w = .ok i) :
    (∃ r ∈ rowsBeforeOta, r.accepts w = true ∧ r.build w = i) ∨
    (otaRow.accepts w = true ∧ w ≠ 0o170020 ∧ w ≠ 0o171020 ∧ .ota (ioField w) = i) := by
  by_cases before : ∃ r ∈ rowsBeforeOta, r.accepts w = true
  · obtain ⟨r, hr, hacc⟩ := before
    exact .inl ⟨r, hr, hacc, Except.ok.inj ((decode_of_accepts hr hacc).symm.trans h)⟩
  · have hota : otaRow.accepts w = true := by
      by_contra hno
      obtain ⟨why, he⟩ := decode_eq_error_iff.mpr fun r hr hacc => by
        rcases mem_opcodeTable.mp hr with hr | rfl
        · exact before ⟨r, hr, hacc⟩
        · exact hno hacc
      cases he.symm.trans h
    have hsmk : w ≠ 0o170020 := by rintro rfl; exact before (by decide)
    have hotk : w ≠ 0o171020 := by rintro rfl; exact before (by decide)
    exact .inr ⟨hota, hsmk, hotk, Except.ok.inj ((decode_of_otaRow hota hsmk hotk).symm.trans h)⟩

/-! ## Each row's words are the encoder's -/

/-- Each word the row accepts is the word of the well-formed instruction the row builds from it. -/
def Row.InvertedByEncode (r : Row) : Prop :=
  ∀ w, r.accepts w = true → encode (r.build w) = w ∧ (r.build w).wellFormed = true

section InvertedByEncode

variable {mnemonic : String}

theorem genericRow_inverted {word : Word} {i : Instr} (hi : encode i = word ∧ i.wellFormed = true) :
    (genericRow mnemonic word i).InvertedByEncode := by
  intro w hw
  rw [genericRow_accepts.mp hw]
  exact hi

theorem memRefRow_inverted {op : BitVec 4} {build : MemRef → Instr}
    (hb : ∀ m, encode (build m) = memRefWord op m ∧ (build m).wellFormed = true) :
    (memRefRow mnemonic op build).InvertedByEncode := by
  intro w hw
  obtain ⟨he, hwf⟩ := hb (memRefField w)
  exact ⟨he.trans (by rw [← memRefRow_accepts.mp hw, memRefWord_memRefField]), hwf⟩

theorem plainRefRow_inverted {t : Bool} {build : PlainRef → Instr}
    (hb : ∀ m, encode (build m) = plainRefWord t m ∧ (build m).wellFormed = true) :
    (plainRefRow mnemonic (BitVec.ofBool t ++ 0o15#4) build).InvertedByEncode := by
  intro w hw
  obtain ⟨he, hwf⟩ := hb (plainRefField w)
  exact ⟨he.trans (plainRefWord_plainRefField (plainRefRow_accepts.mp hw)), hwf⟩

theorem shiftRow_inverted {op : BitVec 10} {build : BitVec 6 → Instr}
    (hb : ∀ n, encode (build n) = shiftWord op n ∧ (build n).wellFormed = true) :
    (shiftRow mnemonic op build).InvertedByEncode := by
  intro w hw
  obtain ⟨he, hwf⟩ := hb (countField w)
  exact ⟨he.trans (by rw [← shiftRow_accepts.mp hw, shiftWord_countField]), hwf⟩

theorem ioRow_inverted {op : BitVec 6} {build : IoAddr → Instr}
    (hb : ∀ io, encode (build io) = ioWord op io ∧ (build io).wellFormed = true) :
    (ioRow mnemonic op build).InvertedByEncode := by
  intro w hw
  obtain ⟨he, hwf⟩ := hb (ioField w)
  exact ⟨he.trans (by rw [← ioRow_accepts.mp hw, ioWord_ioField]), hwf⟩

end InvertedByEncode

theorem genericSkipRows_inverted : ∀ r ∈ genericSkipRows, r.InvertedByEncode := by
  simp [genericSkipRows, genericRow_inverted, encode, Instr.wellFormed]

theorem genericRegisterRows_inverted : ∀ r ∈ genericRegisterRows, r.InvertedByEncode := by
  simp [genericRegisterRows, genericRow_inverted, encode, Instr.wellFormed]

theorem memRefRows_inverted : ∀ r ∈ memRefRows, r.InvertedByEncode := by
  have stx : (plainRefRow "STX" 0o15 .stx).InvertedByEncode := plainRefRow_inverted (t := false) fun _ => ⟨rfl, rfl⟩
  have ldx : (plainRefRow "LDX" 0o35 .ldx).InvertedByEncode := plainRefRow_inverted (t := true) fun _ => ⟨rfl, rfl⟩
  simpa [memRefRows, memRefRow_inverted, encode, Instr.wellFormed] using ⟨stx, ldx⟩

theorem shiftRows_inverted : ∀ r ∈ shiftRows, r.InvertedByEncode := by
  simp [shiftRows, shiftRow_inverted, encode, Instr.wellFormed]

theorem ioRows_dropLast_inverted : ∀ r ∈ ioRows.dropLast, r.InvertedByEncode := by
  simp [ioRows, genericRow_inverted, ioRow_inverted, encode, Instr.wellFormed]

theorem rowsBeforeOta_inverted : ∀ r ∈ rowsBeforeOta, r.InvertedByEncode := by
  simp only [rowsBeforeOta, List.forall_mem_append]
  exact ⟨⟨⟨⟨genericSkipRows_inverted, genericRegisterRows_inverted⟩, memRefRows_inverted⟩, shiftRows_inverted⟩,
    ioRows_dropLast_inverted⟩

theorem ota_wellFormed_iff {io : IoAddr} : (Instr.ota io).wellFormed = true ↔ io ≠ smkAddr ∧ io ≠ otkAddr := by
  simp [Instr.wellFormed]

/-- A word of OTA's row is OTA's word for the function and device in it. -/
theorem otaRow_encode {w : Word} (h : otaRow.accepts w = true) : encode (.ota (ioField w)) = w := by
  change ioWord 0o74 (ioField w) = w
  rw [← ioRow_accepts.mp h, ioWord_ioField]

/-- The words of OTA's row that stand for no OTA are SMK's and OTK's. -/
theorem ota_wellFormed_iff_word {w : Word} (h : otaRow.accepts w = true) :
    (Instr.ota (ioField w)).wellFormed = true ↔ w ≠ 0o170020 ∧ w ≠ 0o171020 := by
  have word_iff (io : IoAddr) : ioField w = io ↔ w = encode (.ota io) :=
    ⟨fun e => e ▸ (otaRow_encode h).symm, fun e => e ▸ ioField_ioWord _ io⟩
  rw [ota_wellFormed_iff, ne_eq, ne_eq, word_iff, word_iff]
  rfl

/-! ## Encoding and decoding -/

/-- Every instruction has a row, by the lemma of each. -/
theorem Laws.rowAccepts : ∀ i : Instr, RowAccepts.Statement i
  | .hlt => RowAccepts.hlt | .ink => RowAccepts.ink | .iab => RowAccepts.iab | .enb => RowAccepts.enb
  | .inh => RowAccepts.inh | .skp => RowAccepts.skp | .src => RowAccepts.src | .sr4 => RowAccepts.sr4
  | .sr3 => RowAccepts.sr3 | .sr2 => RowAccepts.sr2 | .sr1 => RowAccepts.sr1 | .ssr => RowAccepts.ssr
  | .sze => RowAccepts.sze | .slz => RowAccepts.slz | .spl => RowAccepts.spl | .nop => RowAccepts.nop
  | .ssc => RowAccepts.ssc | .ss4 => RowAccepts.ss4 | .ss3 => RowAccepts.ss3 | .ss2 => RowAccepts.ss2
  | .ss1 => RowAccepts.ss1 | .sss => RowAccepts.sss | .snz => RowAccepts.snz | .sln => RowAccepts.sln
  | .smi => RowAccepts.smi | .chs => RowAccepts.chs | .cra => RowAccepts.cra | .ssp => RowAccepts.ssp
  | .rcb => RowAccepts.rcb | .csa => RowAccepts.csa | .cma => RowAccepts.cma | .ssm => RowAccepts.ssm
  | .scb => RowAccepts.scb | .car => RowAccepts.car | .cal => RowAccepts.cal | .icl => RowAccepts.icl
  | .aoa => RowAccepts.aoa | .aca => RowAccepts.aca | .icr => RowAccepts.icr | .ica => RowAccepts.ica
  | .tca => RowAccepts.tca | .otk => RowAccepts.otk | .jmp m => RowAccepts.jmp m | .lda m => RowAccepts.lda m
  | .ana m => RowAccepts.ana m | .sta m => RowAccepts.sta m | .era m => RowAccepts.era m | .add m => RowAccepts.add m
  | .sub m => RowAccepts.sub m | .jst m => RowAccepts.jst m | .cas m => RowAccepts.cas m | .irs m => RowAccepts.irs m
  | .ima m => RowAccepts.ima m | .stx m => RowAccepts.stx m | .ldx m => RowAccepts.ldx m | .lrl n => RowAccepts.lrl n
  | .lrs n => RowAccepts.lrs n | .lrr n => RowAccepts.lrr n | .lgr n => RowAccepts.lgr n | .ars n => RowAccepts.ars n
  | .arr n => RowAccepts.arr n | .lll n => RowAccepts.lll n | .lls n => RowAccepts.lls n | .llr n => RowAccepts.llr n
  | .lgl n => RowAccepts.lgl n | .als n => RowAccepts.als n | .alr n => RowAccepts.alr n
  | .ocp io => RowAccepts.ocp io | .sks io => RowAccepts.sks io | .ina io => RowAccepts.ina io
  | .ota io => RowAccepts.ota io | .smk => RowAccepts.smk

/-- The encoder's word of a well-formed instruction decodes to it. -/
theorem decode_encode {i : Instr} (hi : i.wellFormed = true) : decode (encode i) = .ok i := by
  obtain ⟨r, hr, hacc, hb⟩ := Laws.rowAccepts i
  rcases mem_opcodeTable.mp hr with hr | rfl
  · rw [decode_of_accepts hr hacc, hb]
  · obtain ⟨hsmk, hotk⟩ := (ota_wellFormed_iff_word hacc).mp ((congrArg Instr.wellFormed hb).trans hi)
    rw [decode_of_otaRow hacc hsmk hotk]
    exact congrArg Except.ok hb

theorem decode_of_encode_eq {i : Instr} {w : Word} (hi : i.wellFormed = true) (hw : encode i = w) : decode w = .ok i :=
  hw ▸ decode_encode hi

/-- A word that decodes is the encoder's word of what it decodes to. -/
theorem encode_of_decode {w : Word} {i : Instr} (h : decode w = .ok i) : encode i = w ∧ i.wellFormed = true := by
  rcases row_of_decode h with ⟨r, hr, hacc, rfl⟩ | ⟨hacc, hsmk, hotk, rfl⟩
  · exact rowsBeforeOta_inverted r hr w hacc
  · exact ⟨otaRow_encode hacc, (ota_wellFormed_iff_word hacc).mpr ⟨hsmk, hotk⟩⟩

end Sys2Proof
end

section
/-! The encoding statements (30_encoding.md R60 to R75): decoding and encoding undo each other, the longest mask wins, the
undefined words, and the words of each type as the numbers their rules give. -/

namespace Sys2Proof.Machine

/-! ## The type-G words (R70) -/

/-- The rows of type G are the 42 words with their instructions. -/
theorem genericRows_eq_genericWords :
    (genericSkipRows ++ genericRegisterRows).map (fun r => (r.pattern, r.build r.pattern)) = genericWords := rfl

theorem genericRows_exact : ∀ r ∈ genericSkipRows ++ genericRegisterRows, r.mask = 0xFFFF := by decide

theorem encode_genericWords : ∀ p ∈ genericWords, encode p.2 = p.1 ∧ p.2.wellFormed = true := by decide

/-! ## The spaces of the other types (R71 to R73) -/

variable {w : Word}

theorem genericRows_accept_iff :
    (∃ r ∈ genericSkipRows ++ genericRegisterRows, r.accepts w = true) ↔ ∃ p ∈ genericWords, p.1 = w := by
  have exact_row : (∃ r ∈ genericSkipRows ++ genericRegisterRows, r.accepts w = true) ↔
      ∃ r ∈ genericSkipRows ++ genericRegisterRows, r.pattern = w :=
    exists_congr fun r => and_congr_right fun hr => (Row.accepts_exact (genericRows_exact r hr)).trans eq_comm
  rw [exact_row, ← genericRows_eq_genericWords]
  simp only [List.mem_map, exists_exists_and_eq_and]

theorem memRefRows_accept_iff :
    (∃ r ∈ memRefRows, r.accepts w = true) ↔
      w.extractLsb' 10 4 ≠ 0#4 ∧ w.extractLsb' 10 4 ≠ 0o14#4 ∧
        w.extractLsb' 10 4 ≠ 0o16#4 ∧ w.extractLsb' 10 4 ≠ 0o17#4 := by
  simp [memRefRows, memRefRow_accepts, plainRefRow_accepts, BitVec.toNat_eq, BitVec.extractLsb'_toNat]
  omega

theorem shiftRows_accept_iff :
    (∃ r ∈ shiftRows, r.accepts w = true) ↔
      w.extractLsb' 10 4 = 0#4 ∧ w.extractLsb' 14 2 = 0b01#2 ∧ w.extractLsb' 6 2 ≠ 0b11#2 := by
  simp [shiftRows, shiftRow_accepts, BitVec.toNat_eq, BitVec.extractLsb'_toNat]
  omega

theorem ioRows_accept_iff : (∃ r ∈ ioRows, r.accepts w = true) ↔ w.extractLsb' 10 4 = 0o14#4 := by
  simp [ioRows, genericRow_accepts, ioRow_accepts, BitVec.toNat_eq, BitVec.extractLsb'_toNat]
  omega

/-- A type-G word lies in one of the three type-G spaces, or is OTK's. -/
theorem genericWords_space : ∀ p ∈ genericWords,
    p.1.extractLsb' 10 4 = 0o14#4 ∨ p.1.extractLsb' 10 4 = 0#4 ∧ p.1.extractLsb' 14 2 ≠ 0b01#2 := by decide

/-- The words no row accepts (R75). -/
theorem decode_eq_error_iff_space :
    (∃ why, decode w = .error why) ↔
      (w.extractLsb' 10 4 = 0o16#4 ∨ w.extractLsb' 10 4 = 0o17#4) ∨
      (w.extractLsb' 10 4 = 0#4 ∧ w.extractLsb' 14 2 = 0b01#2 ∧ w.extractLsb' 6 2 = 0b11#2) ∨
      (w.extractLsb' 10 4 = 0#4 ∧ w.extractLsb' 14 2 ≠ 0b01#2 ∧ ∀ p ∈ genericWords, p.1 ≠ w) := by
  have of_generic : (∃ p ∈ genericWords, p.1 = w) →
      w.extractLsb' 10 4 = 0o14#4 ∨ w.extractLsb' 10 4 = 0#4 ∧ w.extractLsb' 14 2 ≠ 0b01#2 := by
    rintro ⟨p, hp, rfl⟩
    exact genericWords_space p hp
  have table : (∃ why, decode w = .error why) ↔
      ¬ ((∃ p ∈ genericWords, p.1 = w) ∨ (∃ r ∈ memRefRows, r.accepts w = true) ∨
        (∃ r ∈ shiftRows, r.accepts w = true) ∨ ∃ r ∈ ioRows, r.accepts w = true) := by
    rw [decode_eq_error_iff, ← genericRows_accept_iff, opcodeTable]
    simp only [List.forall_mem_append, not_or, not_exists, not_and, and_assoc]
  have not_generic : (∀ p ∈ genericWords, p.1 ≠ w) ↔ ¬ ∃ p ∈ genericWords, p.1 = w := by
    simp only [not_exists, not_and, ne_eq]
  rw [table, memRefRows_accept_iff, shiftRows_accept_iff, ioRows_accept_iff, not_generic]
  clear table not_generic
  generalize (∃ p ∈ genericWords, p.1 = w) = isGeneric at of_generic ⊢
  by_cases h0 : w.extractLsb' 10 4 = 0#4
  · -- the shift space and the three type-G spaces
    grind
  · -- of the type-G words, OTK's alone is left, and '16 and '17 are the op codes of no row
    grind

/-- A fetched word that no row accepts is refused (R75). -/
theorem fetchDecode_undefined {s : State} {why : UndefinedWord} (hp : s.p.toNat < s.memSize)
    (hd : decode (s.mem.readWord s.p) = .error why) : fetchDecode s = .refused (.undefinedWord why) := by
  rw [fetchDecode, memRead_installed hp, andThen_next, hd]

/-! ## The words as numbers -/

theorem memRefNumber_eq (op : BitVec 4) (m : MemRef) : memRefNumber op.toNat m = memRefWord op m := by
  apply BitVec.eq_of_toNat_eq
  simp only [memRefNumber, memRefWord, toNat_append_eq_add, BitVec.toNat_ofNat, BitVec.toNat_ofBool]
  have hi := m.indirect.toNat_lt
  have ht := m.indexed.toNat_lt
  have hs := m.ownSector.toNat_lt
  omega

theorem plainRefNumber_eq (t : Bool) (m : PlainRef) :
    plainRefNumber (t.toNat * 0o040000 + 0o032000) m = plainRefWord t m := by
  apply BitVec.eq_of_toNat_eq
  simp only [plainRefNumber, plainRefWord, memRefWord, toNat_append_eq_add, BitVec.ofNat_eq_ofNat, BitVec.toNat_ofNat,
    BitVec.toNat_ofBool]
  have hi := m.indirect.toNat_lt
  have ht := t.toNat_lt
  have hs := m.ownSector.toNat_lt
  omega

theorem shiftNumber_eq (op : BitVec 10) (n : BitVec 6) : shiftNumber (op.toNat * 0o100) n = shiftWord op n := by
  apply BitVec.eq_of_toNat_eq
  simp only [shiftNumber, shiftWord, toNat_append_eq_add, BitVec.toNat_ofNat, BitVec.toNat_neg]
  omega

theorem ioNumber_eq (op : BitVec 6) (io : IoAddr) : ioNumber (op.toNat * 0o2000) io = ioWord op io := by
  apply BitVec.eq_of_toNat_eq
  simp only [ioNumber, ioWord, toNat_append_eq_add, BitVec.toNat_ofNat]
  omega

/-! ## The statements -/

/-- Settles O1, from the row of each instruction and the rows being disjoint. -/
theorem decodeOfEncodeIsIdentity : Obligations.DecodeOfEncodeIsIdentity := fun _ => decode_encode

/-- Settles O2, from the row a decoded word belongs to. -/
theorem encodeOfDecodeIsIdentity : Obligations.EncodeOfDecodeIsIdentity := fun _ _ => encode_of_decode

/-- Settles O3: of the rows that accept a word, OTA's mask is the shortest, and the others are one row. -/
theorem decodeTakesTheLongestMatchingMask : Obligations.DecodeTakesTheLongestMatchingMask := by
  refine ⟨?longest, ?overlap⟩
  case longest =>
    intro w r hr hacc hlongest
    rcases mem_opcodeTable.mp hr with hr | rfl
    · exact decode_of_accepts hr hacc
    · have not_exact (r' : Row) (hr' : r' ∈ rowsBeforeOta) : ¬ r'.accepts w = true := by
        intro hacc'
        have hle := hlongest r' (mem_opcodeTable.mpr (.inl hr')) hacc'
        rw [(meets_otaRow r' hr' (Row.meets_of_accepts hacc' hacc)).1] at hle
        exact absurd hle (by decide)
      exact decode_of_otaRow_alone hacc not_exact
  case overlap =>
    intro w r hr r' hr' hacc hacc' hne
    rcases mem_opcodeTable.mp hr with hr | rfl <;> rcases mem_opcodeTable.mp hr' with hr' | rfl
    · exact absurd (congrArg Row.mnemonic (eq_of_accepts hr hr' hacc hacc')) hne
    · exact .inl ⟨rfl, mnemonic_of_otaRow_accepts hr hacc hacc'⟩
    · exact .inr ⟨rfl, mnemonic_of_otaRow_accepts hr' hacc' hacc⟩
    · exact absurd rfl hne

/-- Settles O4, from the space of each group of rows, and the fetch of a word that has none. -/
theorem undefinedWordsAreRefused : Obligations.UndefinedWordsAreRefused :=
  ⟨fun _ => decode_eq_error_iff_space,
    fun _ _ hs hp hd => step_of_fetch_refused hs (fetchDecode_undefined (by simpa using hp) (by simpa using hd))⟩

/-- Settles O5, from encoding and decoding undoing each other. -/
theorem genericWordsAreMatchedExactly : Obligations.GenericWordsAreMatchedExactly := by
  intro p hp w
  obtain ⟨he, hwf⟩ := encode_genericWords p hp
  constructor
  · intro h
    rw [← (encode_of_decode h).1, he]
  · rintro rfl
    exact decode_of_encode_eq hwf he

/-- Settles O6: the number of each rule is the encoder's word. -/
theorem memoryReferenceWordsDecode : Obligations.MemoryReferenceWordsDecode := by
  refine ⟨fun m => ?_, fun m => ⟨?_, ?_⟩⟩
  · have row (op : BitVec 4) (i : Instr) (hi : i.wellFormed = true) (he : encode i = memRefWord op m) :
        decode (memRefNumber op.toNat m) = .ok i :=
      decode_of_encode_eq hi (he.trans (memRefNumber_eq op m).symm)
    exact ⟨row 0o01 _ rfl rfl, row 0o02 _ rfl rfl, row 0o03 _ rfl rfl, row 0o04 _ rfl rfl, row 0o05 _ rfl rfl,
      row 0o06 _ rfl rfl, row 0o07 _ rfl rfl, row 0o10 _ rfl rfl, row 0o11 _ rfl rfl, row 0o12 _ rfl rfl, row 0o13 _ rfl rfl⟩
  · exact decode_of_encode_eq rfl (plainRefNumber_eq false m).symm
  · exact decode_of_encode_eq rfl (plainRefNumber_eq true m).symm

/-- Settles O7: the number of each rule is the encoder's word. -/
theorem shiftWordsDecode : Obligations.ShiftWordsDecode := by
  intro n
  have row (op : BitVec 10) (i : Instr) (hi : i.wellFormed = true) (he : encode i = shiftWord op n) :
      decode (shiftNumber (op.toNat * 0o100) n) = .ok i :=
    decode_of_encode_eq hi (he.trans (shiftNumber_eq op n).symm)
  exact ⟨row 0o0400 _ rfl rfl, row 0o0401 _ rfl rfl, row 0o0402 _ rfl rfl, row 0o0404 _ rfl rfl, row 0o0405 _ rfl rfl,
    row 0o0406 _ rfl rfl, row 0o0410 _ rfl rfl, row 0o0411 _ rfl rfl, row 0o0412 _ rfl rfl, row 0o0414 _ rfl rfl,
    row 0o0415 _ rfl rfl, row 0o0416 _ rfl rfl⟩

/-- Settles O8: the number of each rule is the encoder's word, and the words of OTA's that stand for no OTA are the encoder's
of SMK and OTK. -/
theorem inputOutputWordsDecode : Obligations.InputOutputWordsDecode := by
  intro io
  have row (op : BitVec 6) (i : Instr) (hi : i.wellFormed = true) (he : encode i = ioWord op io) :
      decode (ioNumber (op.toNat * 0o2000) io) = .ok i :=
    decode_of_encode_eq hi (he.trans (ioNumber_eq op io).symm)
  refine ⟨row 0o14 _ rfl rfl, row 0o34 _ rfl rfl, row 0o54 _ rfl rfl, row 0o74 _ ?_ ?_⟩
  · split_ifs with hsmk hotk
    · rfl
    · rfl
    · exact ota_wellFormed_iff.mpr ⟨hsmk, hotk⟩
  · split_ifs with hsmk hotk
    · rw [hsmk]; rfl
    · rw [hotk]; rfl
    · rfl

/-- Settles O9: each word is the encoder's. -/
theorem wordsWrittenOutDecode : Obligations.WordsWrittenOutDecode :=
  ⟨decode_of_encode_eq rfl rfl, decode_of_encode_eq rfl rfl, decode_of_encode_eq rfl rfl, decode_of_encode_eq rfl rfl,
    decode_of_encode_eq rfl rfl, decode_of_encode_eq rfl rfl, decode_of_encode_eq rfl rfl, decode_of_encode_eq rfl rfl⟩

end Sys2Proof.Machine
end

section
/-! Operand addresses (30_encoding.md R66, R76) and the keys' refusals (R78): the address arithmetic as numbers, the chain without
a bound, and what an instruction with and without a memory operand does whatever DP and EXTMD are. -/

namespace Sys2Proof.Machine

variable {s : State}

/-! ## The address arithmetic, as numbers -/

theorem sectorAddress_toNat (s : State) (o : Bool) (d : BitVec 9) :
    (sectorAddress s o d).toNat = (if o then s.here.toNat / 512 * 512 else 0) + d.toNat := by
  cases o with
  | false =>
    rw [sectorAddress, if_neg Bool.false_ne_true, toNat_append_eq_add]
    simp
  | true =>
    simp only [sectorAddress, toNat_append_eq_add, if_true, BitVec.extractLsb'_toNat]
    omega

theorem indexIf_toNat (s : State) (t : Bool) (y : Addr) :
    (indexIf s t y).toNat = (y.toNat + if t then s.x.toNat else 0) % 16384 := by
  cases t with
  | false => simp [indexIf]; omega
  | true => simp [indexIf]

/-- Sector, displacement and index together. -/
theorem startAddress_toNat (s : State) (t o : Bool) (d : BitVec 9) :
    (indexIf s t (sectorAddress s o d)).toNat =
      ((if o then s.here.toNat / 512 * 512 else 0) + d.toNat + (if t then s.x.toNat else 0)) % 16384 := by
  rw [indexIf_toNat, sectorAddress_toNat]

/-! ## The assembler's two helpers (R76) -/

theorem bit1_addressWord (i t : Bool) (y : Addr) : bit1 (addressWord i t y) = i := by
  simp only [bit1, addressWord, BitVec.getLsbD_append]
  simp

theorem bit2_addressWord (i t : Bool) (y : Addr) : bit2 (addressWord i t y) = t := by
  simp only [bit2, addressWord, BitVec.getLsbD_append]
  simp

theorem addressField_addressWord (i t : Bool) (y : Addr) : addressField (addressWord i t y) = y :=
  BitVec.extractLsb'_append_eq_right

theorem sector_eq_iff (l y : Addr) : y.extractLsb' 9 5 = l.extractLsb' 9 5 ↔ y.toNat / 512 = l.toNat / 512 := by
  simp only [BitVec.toNat_eq, BitVec.extractLsb'_toNat]
  omega

/-- The three answers: sector 0, the instruction's own sector, or none. -/
theorem directOperand_eq (l y : Addr) :
    directOperand l y =
      if y.toNat < 512 then some (false, y.extractLsb' 0 9)
      else if y.toNat / 512 = l.toNat / 512 then some (true, y.extractLsb' 0 9) else none := by
  simp only [directOperand, sector_eq_iff]
  rfl

theorem sectorAddress_of_directOperand {l y : Addr} {o : Bool} {d : BitVec 9} (h : directOperand l y = some (o, d))
    (hl : s.here = l) : sectorAddress s o d = y := by
  apply BitVec.eq_of_toNat_eq
  rw [sectorAddress_toNat, hl]
  rw [directOperand_eq] at h
  split at h
  · cases h
    simp
    omega
  · split at h
    · cases h
      simp
      omega
    · cases h

/-! ## Indirect chains (R66) -/

/-- What is answered is where the chain without a bound ends. -/
theorem chainEnds_of_followIndirect {fuel : Nat} {i : Bool} {y z : Addr} (h : followIndirect s fuel i y = .next z) :
    ChainEnds s i y z := by
  induction fuel generalizing i y with
  | zero =>
    cases i with
    | false => cases h; exact .found _
    | true => cases h
  | succ fuel ih =>
    cases i with
    | false => cases h; exact .found _
    | true =>
      obtain ⟨w, hw, h⟩ := andThen_eq_next.mp h
      obtain ⟨hy, rfl⟩ := memRead_eq_next.mp hw
      exact .hop y z hy (ih h)

theorem effectiveAddress_eq_next {m : MemRef} {y : Addr} :
    effectiveAddress s m = .next y ↔
      ChainEnds s m.indirect (indexIf s m.indexed (sectorAddress s m.ownSector m.disp)) y :=
  ⟨chainEnds_of_followIndirect, followIndirect_of_chainEnds⟩

theorem effectiveAddress_eq_fault {m : MemRef} :
    effectiveAddress s m = .fault .endlessIndirect ↔
      ∀ k, chainGoesOn s k m.indirect (indexIf s m.indexed (sectorAddress s m.ownSector m.disp)) :=
  followIndirect_eq_fault.trans ⟨chainGoesOn_forever, fun h => h chainFuel⟩

/-- An address word that points to itself with I = 1 is followed for ever. -/
theorem chainGoesOn_selfPointing {y : Addr} (hy : y.toNat < s.memSize)
    (hw : s.mem.readWord y = addressWord true false y) (k : Nat) : chainGoesOn s k true y := by
  rw [← followIndirect_eq_fault]
  refine followIndirect_selfPointing hy ?_ ?_ k
  · rw [hw, bit1_addressWord]
  · rw [hw, bit2_addressWord, addressField_addressWord]
    rfl

/-! ## Instructions with and without a memory operand (R78) -/

theorem execIna_answers (io : IoAddr) (s : State) : ∃ t, execIna io s = .next t := by
  unfold execIna
  split <;> exact ⟨_, rfl⟩

theorem exec_answers_of_noMemRef {i : Instr} (hi : memRefOf i = none) (s : State) : ∃ t, exec i s = .next t := by
  cases i with
  | jmp | lda | ana | sta | era | add | sub | jst | cas | irs | ima | stx | ldx => cases hi
  | ina io => exact execIna_answers io s
  | _ => exact ⟨_, rfl⟩

/-- An MR-type instruction whose operand has no address is refused as the address is. -/
theorem exec_of_operandAddress_refused {i : Instr} {m : MemRef} {why : Refusal} (hm : memRefOf i = some m)
    (h : operandAddress s m = .refused why) : exec i s = .refused why := by
  obtain ⟨rest, he, -⟩ := exec_memRef hm s
  rw [he, h, andThen_refused]

theorem exec_of_operandAddress_fault {i : Instr} {m : MemRef} {why : Fault} (hm : memRefOf i = some m)
    (h : operandAddress s m = .fault why) : exec i s = .fault why := by
  obtain ⟨rest, he, -⟩ := exec_memRef hm s
  rw [he, h, andThen_fault]

/-! ## The statements -/

/-- Settles O10, from the three answers of the assembler's choice and the address arithmetic as numbers. -/
theorem directOperandReachesItsAddress : Obligations.DirectOperandReachesItsAddress := by
  refine ⟨?reaches, ?refused, ?apart⟩
  case reaches =>
    intro l y o d s h hl
    rw [effectiveAddress_direct, sectorAddress_of_directOperand h hl]
    rfl
  case refused =>
    intro l y
    rw [directOperand_eq]
    split_ifs <;> simp <;> omega
  case apart => exact fun i t y => ⟨bit1_addressWord i t y, bit2_addressWord i t y, addressField_addressWord i t y⟩

/-- Settles O14: every MR-type instruction begins with the keys' check, and no other instruction has a refusal. -/
theorem keysStopOnlyMemoryReferences : Obligations.KeysStopOnlyMemoryReferences :=
  ⟨fun _ s hi => exec_answers_of_noMemRef hi s,
    fun _ _ _ hm hd => exec_of_operandAddress_refused hm (operandAddress_dp hd),
    fun _ _ _ hm hd he => exec_of_operandAddress_refused hm (operandAddress_extmd hd he)⟩

/-- Settles O16: the bounded chain answers where the unbounded one ends. -/
theorem effectiveAddressFollowsTheWholeChain : Obligations.EffectiveAddressFollowsTheWholeChain :=
  fun s m => ⟨_, startAddress_toNat s m.indexed m.ownSector m.disp, fun _ => effectiveAddress_eq_next⟩

/-- Settles O17: a chain that outlasts the bound has come back to an address. -/
theorem endlessChainHangs : Obligations.EndlessChainHangs :=
  ⟨fun _ _ => effectiveAddress_eq_fault,
    fun _ _ _ hm hd he hf => exec_of_operandAddress_fault hm ((operandAddress_of_keys hd he).trans hf),
    fun _ _ k hy hw => chainGoesOn_selfPointing hy hw k⟩

/-- Settles O18, from the address arithmetic as numbers. -/
theorem directAndOneLevelAddressesAreAnswered : Obligations.DirectAndOneLevelAddressesAreAnswered := by
  refine ⟨fun s t o d => ⟨_, effectiveAddress_direct t o d, startAddress_toNat s t o d⟩, ?oneLevel⟩
  case oneLevel =>
    intro s t o d z hz hn hi
    obtain rfl := Host.Outcome.next.inj ((effectiveAddress_direct t o d).symm.trans hz)
    exact ⟨_, by rw [effectiveAddress_indirect t o d hn, hi, followIndirect_direct], indexIf_toNat s _ _⟩

end Sys2Proof.Machine
end

section
/-! Load and store (40_load_store.md), with ANA and ERA (42_logical.md): each instruction's next state where its operand addresses
an installed word, and from it the word stored, X at location '00000 (20_memory.md R42) and the frame. -/

namespace Sys2Proof.Machine

variable {s : State} {y : Addr}

/-! ## Rows of the opcode table -/

/-- A word is the row of the instruction it encodes; the time column is the cycle column's (70_reset_and_hazards.md R320). -/
theorem IsRow.of_encode {w : Word} {i : Instr} {half : Option Nat} (hi : i.wellFormed = true) (hw : encode i = w)
    (hc : halfCycles i = half) : IsRow w i half :=
  ⟨decode_of_encode_eq hi hw, hc, congrArg (Option.map (48 * ·)) hc⟩

/-! ## An operand that addresses an installed word (30_encoding.md R66, R78) -/

/-- What goes on from the operand's address goes on from y. -/
theorem andThen_operandAddress {α : Type} {m : MemRef} (h : Addresses s m y) (f : Addr → Result α) :
    andThen (operandAddress s m) f = f y := by
  rw [operandAddress_of_addresses h, andThen_next]

/-- What goes on from the operand word goes on from M[y]. -/
theorem andThen_operandWord {α : Type} {m : MemRef} (h : Addresses s m y) (f : Word → Result α) :
    andThen (operandWord s m) f = f (s.mem.readWord y) := by
  rw [operandWord_of_addresses h, andThen_next]

/-! ## The storing instructions -/

/-- STX is the checks, the address, and one write of X, which leaves X even at location '00000 (40_load_store.md R108). -/
theorem exec_stx_of_addresses {m : PlainRef} (h : Addresses s (unindexed m) y) :
    exec (.stx m) s = .next { s with mem := s.mem.writeWord y s.x } := by
  have ⟨_, _, _, hy⟩ := h
  calc exec (.stx m) s
    _ = memWrite s y s.x := andThen_operandAddress h _
    _ = .next { s with mem := s.mem.writeWord y s.x, x := if y = 0 then s.x else s.x } := memWrite_installed hy _
    _ = .next { s with mem := s.mem.writeWord y s.x } := by rw [ite_self]

/-- IMA reads before it writes: A becomes the old word, and the old A is stored (40_load_store.md R102). -/
theorem exec_ima_of_addresses {m : MemRef} (h : Addresses s m y) :
    exec (.ima m) s = .next { s with
      a := s.mem.readWord y, mem := s.mem.writeWord y s.a, x := if y = 0 then s.a else s.x } := by
  have ⟨_, _, _, hy⟩ := h
  exact (andThen_operandAddress h _).trans
    (readThenWrite_eq_next (f := fun _ => s.a) (g := fun w u => u.setA w).mpr ⟨hy, rfl⟩)

/-- LDX sets X and writes it to location '00000, which is installed since y is (40_load_store.md R105). -/
theorem exec_ldx_of_addresses {m : PlainRef} (h : Addresses s (unindexed m) y) :
    exec (.ldx m) s = .next { s with mem := s.mem.writeWord 0 (s.mem.readWord y), x := s.mem.readWord y } := by
  have ⟨_, _, _, hy⟩ := h
  have zero_installed : (0 : Addr).toNat < (s.setX (s.mem.readWord y)).memSize := Nat.zero_lt_of_lt hy
  exact (andThen_operandWord h _).trans (memWrite_installed zero_installed _)

/-! ## The statements -/

/-- Settles O34: each is one update of A from the operand word. -/
theorem loadAndLogicalOperandsReachA : Obligations.LoadAndLogicalOperandsReachA :=
  fun _ _ _ h => ⟨andThen_operandWord h _, andThen_operandWord h _, andThen_operandWord h _⟩

/-- Settles O35, from the next states of STA and STX; STX leaves X whether or not it stores to location '00000. -/
theorem storesReachTheirWordAlone : Obligations.StoresReachTheirWordAlone :=
  ⟨fun _ _ _ hwf h => ⟨_, exec_sta_of_addresses h, stored_of_writeWord hwf rfl rfl, rfl⟩,
    fun _ _ _ hwf h => ⟨_, exec_stx_of_addresses h, stored_of_writeWord hwf rfl (ite_self _).symm, rfl⟩⟩

/-- Settles O36, from the next state of IMA. -/
theorem interchangeMemoryAndA : Obligations.InterchangeMemoryAndA :=
  fun _ _ _ hwf h => ⟨_, exec_ima_of_addresses h, stored_of_writeWord hwf rfl rfl, rfl⟩

/-- Settles O37: LDX's next state reads at location '00000 what was stored there, and at every other byte what s does. -/
theorem loadXAlsoWritesLocationZero : Obligations.LoadXAlsoWritesLocationZero :=
  fun _ _ _ hwf h => ⟨_, exec_ldx_of_addresses h, rfl, Memory.readWord_writeWord_same hwf 0 _,
    fun _ hl hr => Memory.readByte_writeWord_other hwf hl hr _, rfl⟩

/-- Settles O32: the words are the encoder's, and each instruction is a record update of A and B. -/
theorem clearAndInterchangeRegisters : Obligations.ClearAndInterchangeRegisters :=
  ⟨.of_encode rfl rfl rfl, .of_encode rfl rfl rfl, fun _ => ⟨rfl, rfl⟩⟩

end Sys2Proof.Machine
end

section
/-! Arithmetic (41_arithmetic.md): the C that a true result leaves, as numbers, for adding nothing, adding one, and the memory
operand's sum and difference; and the negative that TCA leaves. -/

namespace Sys2Proof.Machine

variable {s : State} {y : Addr}

/-! ## Overflow status (R120) -/

/-- A word's own value always fits. -/
theorem overflows_toInt (v : Word) : overflows v.toInt = false := by
  have range : -32768 ≤ v.toInt ∧ v.toInt < 32768 := ⟨BitVec.le_toInt v, BitVec.toInt_lt⟩
  rw [Bool.eq_false_iff, Ne, overflows_eq_true]
  omega

/-- '077777 is the one word whose successor does not fit. -/
theorem overflows_toInt_add_one (v : Word) : overflows (v.toInt + 1) = (v == 0o077777) := by
  have range : -32768 ≤ v.toInt ∧ v.toInt < 32768 := ⟨BitVec.le_toInt v, BitVec.toInt_lt⟩
  have largest : v = 0o077777 ↔ v.toInt = 32767 := BitVec.toInt_inj.symm
  rw [Bool.eq_iff_iff, beq_iff_eq, overflows_eq_true, largest]
  omega

/-! ## `A <- r mod 2^16; C <- overflow status`, for the results of R121 and R123 -/

/-- AOA's result: the next word, and C exactly where '077777 was passed. -/
theorem State.setArith_add_one (s : State) :
    s.setArith (s.a.toInt + 1) = { s with a := s.a + 1, c := s.a == 0o077777 } := by
  rw [State.setArith_eq, overflows_toInt_add_one, BitVec.ofInt_add, BitVec.ofInt_toInt]
  rfl

/-- A result that is A itself leaves A and clears C. -/
theorem State.setArith_toInt (s : State) : s.setArith s.a.toInt = { s with c := false } := by
  rw [State.setArith_eq, overflows_toInt, BitVec.ofInt_toInt]

/-! ## The instructions with a memory operand -/

/-- ADD is one update of A and C from the operand word (R122). -/
theorem exec_add_of_addresses {m : MemRef} (h : Addresses s m y) :
    exec (.add m) s = .next { s with
      a := s.a + s.mem.readWord y, c := overflows (s.a.toInt + (s.mem.readWord y).toInt) } := by
  calc exec (.add m) s
    _ = .next (s.setArith (s.a.toInt + (s.mem.readWord y).toInt)) := andThen_operandWord h _
    _ = _ := by rw [State.setArith_eq, ofInt_add]

/-- SUB is one update of A and C, the operand word being the subtrahend (R124). -/
theorem exec_sub_of_addresses {m : MemRef} (h : Addresses s m y) :
    exec (.sub m) s = .next { s with
      a := s.a - s.mem.readWord y, c := overflows (s.a.toInt - (s.mem.readWord y).toInt) } := by
  calc exec (.sub m) s
    _ = .next (s.setArith (s.a.toInt - (s.mem.readWord y).toInt)) := andThen_operandWord h _
    _ = _ := by rw [State.setArith_eq, ofInt_sub]

/-! ## The instructions without one -/

theorem exec_aoa (s : State) : exec .aoa s = .next { s with a := s.a + 1, c := s.a == 0o077777 } :=
  congrArg Host.Outcome.next s.setArith_add_one

/-- ACA adds one as AOA does where C is 1, and nothing where C is 0 (R121). -/
theorem exec_aca (s : State) :
    exec .aca s = .next { s with a := if s.c then s.a + 1 else s.a, c := s.c && s.a == 0o077777 } := by
  have result : exec .aca s = .next (s.setArith (s.a.toInt + carryIn s.c)) := rfl
  rw [result]
  cases s.c with
  | false => simp [carryIn, State.setArith_toInt]
  | true => simp [carryIn, State.setArith_add_one]

/-! ## The statements -/

/-- Settles O38: the updates of A and C, where C is by definition whether the true result is out of range. -/
theorem addAndSubtract : Obligations.AddAndSubtract :=
  fun _ _ _ h => ⟨exec_add_of_addresses h, exec_sub_of_addresses h⟩

/-- Settles O39: the words are the encoder's, and C follows from '077777 being the one word whose successor does not fit. -/
theorem addOneAndAddC : Obligations.AddOneAndAddC :=
  ⟨.of_encode rfl rfl rfl, .of_encode rfl rfl rfl, fun s => ⟨exec_aoa s, exec_aca s⟩⟩

/-- Settles O40: A becomes the wrapped negative, which is the exact one for every word but '100000, the least. -/
theorem negateAKeepsC : Obligations.NegateAKeepsC :=
  ⟨.of_encode rfl rfl rfl, fun s =>
    ⟨_, rfl, BitVec.toNat_neg s.a, fun notLeast => BitVec.toInt_neg_of_ne_intMin notLeast, rfl⟩⟩

end Sys2Proof.Machine
end

section
/-! Sign and complement (42_logical.md R137 to R139, R141, R142): the masks of the five instructions, and what each does to bit k
of a word, counted from 0 at the sign. -/

namespace Sys2Proof.Machine

variable (v : Word) {k : Nat}

/-! ## The masks -/

/-- '100000 is the sign alone. -/
theorem getMsbD_signMask : (0o100000 : Word).getMsbD k = decide (k = 0) :=
  BitVec.getMsbD_intMin

/-- '077777 is every bit but the sign. -/
theorem getMsbD_magnitudeMask (hk : k < 16) : (0o077777 : Word).getMsbD k = !decide (k = 0) := by
  have complement : (0o077777 : Word) = ~~~0o100000 := rfl
  rw [complement, BitVec.getMsbD_not, getMsbD_signMask, decide_eq_true hk, Bool.true_and]

/-! ## The words the masks make -/

theorem getMsbD_clearSign (hk : k < 16) :
    (v &&& 0o077777).getMsbD k = if k = 0 then false else v.getMsbD k := by
  rw [BitVec.getMsbD_and, getMsbD_magnitudeMask hk]
  split <;> simp [*]

theorem getMsbD_setSign : (v ||| 0o100000).getMsbD k = if k = 0 then true else v.getMsbD k := by
  rw [BitVec.getMsbD_or, getMsbD_signMask]
  split <;> simp [*]

theorem getMsbD_invertSign : (v ^^^ 0o100000).getMsbD k = if k = 0 then !v.getMsbD k else v.getMsbD k := by
  rw [BitVec.getMsbD_xor, getMsbD_signMask]
  split <;> simp [*]

/-- '177777 is every bit, so exclusive OR with it is the complement. -/
theorem getMsbD_invertAll (hk : k < 16) : (v ^^^ 0o177777).getMsbD k = !v.getMsbD k := by
  have complement : v ^^^ 0o177777 = ~~~v := BitVec.xor_allOnes
  rw [complement, BitVec.getMsbD_not, decide_eq_true hk, Bool.true_and]

/-! ## The statement -/

/-- Settles O41: the words are the encoder's, each instruction is one mask on A, and CSA first copies the sign to C. -/
theorem signAndComplementInstructions : Obligations.SignAndComplementInstructions := by
  refine ⟨.of_encode rfl rfl rfl, .of_encode rfl rfl rfl, .of_encode rfl rfl rfl, .of_encode rfl rfl rfl,
    .of_encode rfl rfl rfl, fun s => ⟨?csa, ?chs, ?cma, ?ssm, ?ssp⟩⟩
  case csa => exact ⟨s.a &&& 0o077777, rfl, fun _ hk => getMsbD_clearSign s.a hk⟩
  case chs => exact ⟨s.a ^^^ 0o100000, rfl, fun _ _ => getMsbD_invertSign s.a⟩
  case cma => exact ⟨s.a ^^^ 0o177777, rfl, fun _ hk => getMsbD_invertAll s.a hk⟩
  case ssm => exact ⟨s.a ||| 0o100000, rfl, fun _ _ => getMsbD_setSign s.a⟩
  case ssp => exact ⟨s.a &&& 0o077777, rfl, fun _ hk => getMsbD_clearSign s.a hk⟩

end Sys2Proof.Machine
end

section
/-! The shifts (43_shift.md R150 to R163). A single-position step of the machine moves the word or the pair it works on by one
position of an operation on bit vectors, so n steps move it by n positions. C is what the last step left there, or, for the two
arithmetic left shifts, whether any step lost the number. -/

namespace Sys2Proof.Machine

/-! ## Operations that go by positions -/

section Positions

variable {w : Nat}

/-- A move by n + 1 positions is one by n positions and then one by one position, and a move by none is none. -/
structure GoesByPositions (op : BitVec w → Nat → BitVec w) : Prop where
  zero : ∀ v, op v 0 = v
  succ : ∀ v n, op v (n + 1) = op (op v n) 1

theorem goesByPositions_shiftLeft : GoesByPositions fun (v : BitVec w) n => v <<< n :=
  ⟨BitVec.shiftLeft_zero, fun v n => BitVec.shiftLeft_add v n 1⟩

theorem goesByPositions_ushiftRight : GoesByPositions fun (v : BitVec w) n => v >>> n :=
  ⟨BitVec.ushiftRight_zero, fun v n => BitVec.shiftRight_add v n 1⟩

theorem goesByPositions_sshiftRight : GoesByPositions (BitVec.sshiftRight (n := w)) :=
  ⟨fun _ => BitVec.sshiftRight_zero, fun _ _ => BitVec.sshiftRight_add⟩

/-- Bit i of a right rotation, counted from the lowest, is n places further up, round the cycle of w. -/
theorem getLsbD_rotateRight_cyclic (v : BitVec w) (n : Nat) {i : Nat} (hi : i < w) :
    (v.rotateRight n).getLsbD i = v.getLsbD ((n + i) % w) := by
  have hn : n % w < w := Nat.mod_lt n (Nat.zero_lt_of_lt hi)
  rw [BitVec.getLsbD_rotateRight, ← Nat.mod_add_mod n w i, cond_eq_ite]
  by_cases inside : i < w - n % w
  · rw [Nat.mod_eq_of_lt (by omega : n % w + i < w)]
    simp [inside]
  · have around : (n % w + i) % w = i - (w - n % w) := by
      rw [Nat.mod_eq_sub_mod (by omega), Nat.mod_eq_of_lt (by omega)]
      omega
    simp [inside, hi, around]

/-- One place and then n places round a cycle are n + 1 places. -/
theorem add_mod_add_one_add (n i : Nat) : (n + (1 + i) % w) % w = (n + 1 + i) % w := by
  rw [Nat.add_mod_mod, Nat.add_assoc]

theorem goesByPositions_rotateRight : GoesByPositions (BitVec.rotateRight (w := w)) where
  zero v := by simp [BitVec.rotateRight_def]
  succ v n := by
    apply BitVec.eq_of_getLsbD_eq
    intro i hi
    have hw : (1 + i) % w < w := Nat.mod_lt _ (Nat.zero_lt_of_lt hi)
    rw [getLsbD_rotateRight_cyclic _ _ hi, getLsbD_rotateRight_cyclic _ _ hi, getLsbD_rotateRight_cyclic _ _ hw,
      add_mod_add_one_add]

theorem goesByPositions_rotateLeft : GoesByPositions (BitVec.rotateLeft (w := w)) where
  zero v := BitVec.eq_of_getMsbD_eq fun i hi => by
    simp [BitVec.getMsbD_rotateLeft, hi, Nat.mod_eq_of_lt hi]
  succ v n := by
    apply BitVec.eq_of_getMsbD_eq
    intro i hi
    have hw : (1 + i) % w < w := Nat.mod_lt _ (Nat.zero_lt_of_lt hi)
    simp only [BitVec.getMsbD_rotateLeft, hi, hw, decide_true, Bool.true_and, add_mod_add_one_add]

/-! ## One position, as the steps spell it -/

/-- Rotating left by one moves the highest bit to the lowest place. -/
theorem append_highest_eq_rotateLeft_one (v : BitVec (w + 1)) : v.extractLsb' 0 w ++ v.extractLsb' w 1 = v.rotateLeft 1 := by
  apply BitVec.eq_of_getMsbD_eq
  intro i hi
  rw [BitVec.getMsbD_rotateLeft, BitVec.getMsbD_append]
  by_cases last : i = w
  · simp [last, Nat.add_comm 1, BitVec.getMsbD]
  · have inside : i < w := by omega
    have next : (1 + i) % (w + 1) = i + 1 := by rw [Nat.add_comm, Nat.mod_eq_of_lt (by omega)]
    have place : w - 1 - i = w - (i + 1) := by omega
    have below : w - (i + 1) < w := by omega
    simp [next, inside, Nat.not_le.mpr inside, BitVec.getMsbD, place, below, Nat.le_of_lt_succ hi]

/-- Rotating right by one moves the lowest bit to the highest place. -/
theorem lowest_append_eq_rotateRight_one (v : BitVec (1 + w)) : v.extractLsb' 0 1 ++ v.extractLsb' 1 w = v.rotateRight 1 := by
  apply BitVec.eq_of_getLsbD_eq
  intro i hi
  rw [getLsbD_rotateRight_cyclic _ _ hi, BitVec.getLsbD_append]
  by_cases inside : i < w
  · simp [inside, Nat.mod_eq_of_lt (by omega : 1 + i < 1 + w)]
  · obtain rfl : i = w := by omega
    simp

/-- An arithmetic shift right by one repeats the highest bit. -/
theorem highest_append_eq_sshiftRight_one (v : BitVec (1 + w)) : v.extractLsb' w 1 ++ v.extractLsb' 1 w = v.sshiftRight 1 := by
  apply BitVec.eq_of_getLsbD_eq
  intro i hi
  rw [BitVec.getLsbD_sshiftRight, BitVec.getLsbD_append]
  by_cases inside : i < w
  · simp [inside, hi]
  · obtain rfl : i = w := by omega
    simp [BitVec.msb_eq_getLsbD_last]

/-- A logical shift left by one brings a zero to the lowest place. -/
theorem append_zero_eq_shiftLeft_one (v : BitVec (w + 1)) : v.extractLsb' 0 w ++ 0#1 = v <<< 1 := by
  apply BitVec.eq_of_getLsbD_eq
  intro i hi
  rw [BitVec.getLsbD_shiftLeft, BitVec.getLsbD_append]
  by_cases low : i < 1
  · simp [low]
  · have inside : i - 1 < w := by omega
    simp [low, inside, hi]

/-- A logical shift right by one brings a zero to the highest place. -/
theorem zero_append_eq_ushiftRight_one (v : BitVec (1 + w)) : 0#1 ++ v.extractLsb' 1 w = v >>> 1 := by
  apply BitVec.eq_of_getLsbD_eq
  intro i hi
  rw [BitVec.getLsbD_ushiftRight, BitVec.getLsbD_append]
  by_cases inside : i < w
  · simp [inside]
  · have outside : v.getLsbD (1 + i) = false := BitVec.getLsbD_of_ge v _ (by omega)
    simp [inside, outside]

/-- The bit that a left rotation by one brings to the lowest place was the highest. -/
theorem getLsbD_zero_rotateLeft_one (v : BitVec w) : (v.rotateLeft 1).getLsbD 0 = v.msb := by
  rcases Nat.eq_zero_or_pos w with rfl | hw
  · simp [BitVec.msb]
  · have around : (1 + (w - 1)) % w = 0 := by rw [Nat.add_sub_cancel' hw, Nat.mod_self]
    rw [BitVec.getLsbD_eq_getMsbD, BitVec.getMsbD_rotateLeft]
    simp [hw, around, BitVec.msb]

/-- The bit that a right rotation by one brings to the highest place was the lowest. -/
theorem msb_rotateRight_one (v : BitVec w) : (v.rotateRight 1).msb = v.getLsbD 0 := by
  rcases Nat.eq_zero_or_pos w with rfl | hw
  · simp
  · have around : (1 + (w - 1)) % w = 0 := by rw [Nat.add_sub_cancel' hw, Nat.mod_self]
    rw [BitVec.msb_eq_getLsbD_last, getLsbD_rotateRight_cyclic _ _ (Nat.sub_lt hw Nat.one_pos), around]

/-- The n-th bit that an arithmetic right shift moves out: the n-th from the low end, the sign beyond the width. -/
theorem getLsbD_zero_sshiftRight (v : BitVec w) {n : Nat} (hw : 0 < w) :
    (v.sshiftRight (n - 1)).getLsbD 0 = if n ≤ w then v.getLsbD (n - 1) else v.msb := by
  have inside : n - 1 < w ↔ n ≤ w := by omega
  rw [BitVec.getLsbD_sshiftRight]
  simp [inside, hw.ne']

/-! ## Whether a number times a power of two fits its width -/

/-- v times 2^n is a signed number of w bits. -/
def FitsTimes (v : BitVec w) (n : Nat) : Prop :=
  -2 ^ (w - 1) ≤ v.toInt * 2 ^ n ∧ v.toInt * 2 ^ n < 2 ^ (w - 1)

theorem fitsTimes_zero (v : BitVec w) : FitsTimes v 0 := by
  simpa [FitsTimes] using And.intro (BitVec.le_toInt v) (BitVec.toInt_lt (x := v))

theorem fitsTimes_of_succ {v : BitVec w} {n : Nat} (h : FitsTimes v (n + 1)) : FitsTimes v n := by
  obtain ⟨lower, upper⟩ := h
  have double : v.toInt * 2 ^ (n + 1) = 2 * (v.toInt * 2 ^ n) := by ring
  have positive : (0 : Int) < 2 ^ (w - 1) := by positivity
  constructor <;> omega

theorem fitsTimes_one_iff_saddOverflow {v : BitVec w} : FitsTimes v 1 ↔ v.saddOverflow v = false := by
  simp only [FitsTimes, BitVec.saddOverflow, Bool.or_eq_false_iff, decide_eq_false_iff_not, pow_one, mul_two]
  omega

theorem shiftLeft_one_eq_add (v : BitVec w) : v <<< 1 = v + v := by
  rw [BitVec.toNat_eq, BitVec.toNat_shiftLeft, BitVec.toNat_add, Nat.shiftLeft_eq, pow_one, mul_two]

/-- One position to the left keeps the sign exactly where it loses nothing. -/
theorem msb_shiftLeft_one_eq_iff (v : BitVec w) : (v <<< 1).msb = v.msb ↔ FitsTimes v 1 := by
  rw [fitsTimes_one_iff_saddOverflow, BitVec.saddOverflow_eq, shiftLeft_one_eq_add]
  simp

theorem toInt_shiftLeft_one {v : BitVec w} (h : FitsTimes v 1) : (v <<< 1).toInt = v.toInt * 2 := by
  have noOverflow := fitsTimes_one_iff_saddOverflow.mp h
  rw [shiftLeft_one_eq_add, BitVec.toInt_add_of_not_saddOverflow (by simp [noOverflow]), mul_two]

theorem toInt_shiftLeft_of_fitsTimes {v : BitVec w} {n : Nat} (h : FitsTimes v n) :
    (v <<< n).toInt = v.toInt * 2 ^ n := by
  induction n with
  | zero => simp
  | succ n ih =>
    have before := ih (fitsTimes_of_succ h)
    have last : FitsTimes (v <<< n) 1 := by simpa only [FitsTimes, before, pow_succ, mul_assoc, pow_zero, one_mul] using h
    rw [BitVec.shiftLeft_add, toInt_shiftLeft_one last, before, pow_succ, mul_assoc]

/-- A number times 2^(n + 1) fits where it fits times 2^n and the last position keeps the sign. -/
theorem fitsTimes_succ_iff {v : BitVec w} {n : Nat} :
    FitsTimes v (n + 1) ↔ FitsTimes v n ∧ (v <<< (n + 1)).msb = (v <<< n).msb := by
  have last (h : FitsTimes v n) : FitsTimes v (n + 1) ↔ FitsTimes (v <<< n) 1 := by
    simp only [FitsTimes, toInt_shiftLeft_of_fitsTimes h, pow_succ, mul_assoc, pow_zero, one_mul]
  rw [BitVec.shiftLeft_add, msb_shiftLeft_one_eq_iff]
  exact ⟨fun h => ⟨fitsTimes_of_succ h, (last (fitsTimes_of_succ h)).mp h⟩, fun ⟨h, hl⟩ => (last h).mpr hl⟩

end Positions

/-! ## Repeating a step -/

section Repeat

variable {f : ShiftRegs → ShiftRegs} (n : BitVec 6) (s : State)

/-- What a shift starts from: A and B, with C cleared (R150). -/
def State.shiftStart (s : State) : ShiftRegs := { a := s.a, b := s.b, c := false }

theorem shifted_eq_repeatStep : shifted f n s = repeatStep f n.toNat s.shiftStart := rfl

/-- What each step keeps, the shift keeps. -/
theorem shifted_keeps {α : Type} {g : ShiftRegs → α} (h : ∀ r, g (f r) = g r) : g (shifted f n s) = g s.shiftStart :=
  repeatStep_induct f n.toNat _ (motive := fun _ r => g r = g s.shiftStart) rfl fun _ r hr => (h r).trans hr

/-- A count other than 0 has a last step, and 0 has none. -/
theorem shifted_last : n = 0 ∧ shifted f n s = s.shiftStart ∨
    n ≠ 0 ∧ shifted f n s = f (repeatStep f (n.toNat - 1) s.shiftStart) := by
  by_cases hn : n = 0
  · exact .inl ⟨hn, by rw [hn]; rfl⟩
  · have positive : n.toNat ≠ 0 := fun h => hn (BitVec.eq_of_toNat_eq h)
    exact .inr ⟨hn, by rw [← repeatStep_succ_last f, Nat.sub_one_add_one positive]; rfl⟩

/-- Where each step sets C to something of the registers after it, so does the last; without a step C is 0. -/
theorem shifted_c_of_after {out : ShiftRegs → Bool} (h : ∀ r, (f r).c = out (f r)) :
    (shifted f n s).c = (n != 0 && out (shifted f n s)) := by
  rcases shifted_last (f := f) n s with ⟨rfl, hs⟩ | ⟨hn, hs⟩
  · rw [hs]; rfl
  · rw [hs, h, bne_iff_ne.mpr hn, Bool.true_and]

variable {w : Nat} (view : ShiftRegs → BitVec w) {op : BitVec w → Nat → BitVec w}

/-- n steps, each by one position of op in what view shows of the registers, are n positions of op. -/
theorem view_repeatStep (hop : GoesByPositions op) (h : ∀ r, view (f r) = op (view r) 1) (k : Nat) (r : ShiftRegs) :
    view (repeatStep f k r) = op (view r) k :=
  repeatStep_induct f k r (motive := fun k q => view q = op (view r) k) (hop.zero _).symm
    fun k q hq => by rw [h, hq, ← hop.succ]

theorem view_shifted (hop : GoesByPositions op) (h : ∀ r, view (f r) = op (view r) 1) :
    view (shifted f n s) = op (view s.shiftStart) n.toNat :=
  view_repeatStep view hop h n.toNat _

/-- Where each step leaves in C the bit that goes out, C is the bit that goes out after n - 1 positions. -/
theorem shifted_c_of_out {out : BitVec w → Bool} (hop : GoesByPositions op) (h : ∀ r, view (f r) = op (view r) 1)
    (hc : ∀ r, (f r).c = out (view r)) :
    (shifted f n s).c = (n != 0 && out (op (view s.shiftStart) (n.toNat - 1))) := by
  rcases shifted_last (f := f) n s with ⟨rfl, hs⟩ | ⟨hn, hs⟩
  · rw [hs]; rfl
  · rw [hs, hc, view_repeatStep view hop h, bne_iff_ne.mpr hn, Bool.true_and]

/-- C after a logical left shift is the last bit out at the high end, 0 beyond the width. -/
theorem shifted_c_shiftLeft (h : ∀ r, view (f r) = view r <<< 1) (hc : ∀ r, (f r).c = (view r).msb) :
    (shifted f n s).c = (n != 0 && (view s.shiftStart).getMsbD (n.toNat - 1)) := by
  rw [shifted_c_of_out n s view goesByPositions_shiftLeft h hc, BitVec.msb_shiftLeft]

/-- C after a logical right shift is the last bit out at the low end, 0 beyond the width. -/
theorem shifted_c_ushiftRight (h : ∀ r, view (f r) = view r >>> 1) (hc : ∀ r, (f r).c = (view r).getLsbD 0) :
    (shifted f n s).c = (n != 0 && (view s.shiftStart).getLsbD (n.toNat - 1)) := by
  rw [shifted_c_of_out n s view (out := (BitVec.getLsbD · 0)) goesByPositions_ushiftRight h hc, BitVec.getLsbD_ushiftRight,
    Nat.add_zero]

/-- C after an arithmetic right shift is the last bit out at the low end, the sign beyond the width. -/
theorem shifted_c_sshiftRight (hw : 0 < w) (h : ∀ r, view (f r) = (view r).sshiftRight 1)
    (hc : ∀ r, (f r).c = (view r).getLsbD 0) :
    (shifted f n s).c =
      (n != 0 && if n.toNat ≤ w then (view s.shiftStart).getLsbD (n.toNat - 1) else (view s.shiftStart).msb) := by
  rw [shifted_c_of_out n s view (out := (BitVec.getLsbD · 0)) goesByPositions_sshiftRight h hc, getLsbD_zero_sshiftRight _ hw]

/-- An arithmetic right shift divides by the power of two, rounding down. -/
theorem toInt_view_shifted_sshiftRight (h : ∀ r, view (f r) = (view r).sshiftRight 1) :
    (view (shifted f n s)).toInt = (view s.shiftStart).toInt / 2 ^ n.toNat := by
  rw [view_shifted n s view goesByPositions_sshiftRight h, BitVec.toInt_sshiftRight, Int.shiftRight_eq_div_pow]
  norm_cast

/-- A left shift whose steps note a change of the sign ends with C set exactly if the number times 2^n does not fit. -/
theorem shifted_c_eq_true_iff (h : ∀ r, view (f r) = view r <<< 1)
    (hc : ∀ r, (f r).c = (r.c || (view (f r)).msb != (view r).msb)) :
    (shifted f n s).c = true ↔ ¬FitsTimes (view s.shiftStart) n.toNat := by
  rw [shifted_eq_repeatStep]
  generalize n.toNat = k
  induction k with
  | zero => simp [State.shiftStart, fitsTimes_zero]
  | succ k ih =>
    have at_k := view_repeatStep view goesByPositions_shiftLeft h k s.shiftStart
    have at_succ := view_repeatStep view goesByPositions_shiftLeft h (k + 1) s.shiftStart
    rw [repeatStep_succ_last] at at_succ ⊢
    rw [hc, Bool.or_eq_true, ih, bne_iff_ne, at_succ, at_k, fitsTimes_succ_iff, not_and_or]

end Repeat

/-! ## The pairs D and E (R151) -/

section Pairs

variable (r : ShiftRegs)

@[simp] theorem ShiftRegs.setD_d (d : BitVec 32) : (r.setD d).d = d :=
  BitVec.extractLsb'_append_extractLsb' (w := 16) (len := 16)

@[simp] theorem ShiftRegs.setE_e (e : BitVec 31) : (r.setE e).e = e := by
  have low : (r.setE e).b.extractLsb' 0 15 = e.extractLsb' 0 15 := BitVec.extractLsb'_append_eq_right
  rw [ShiftRegs.e, low]
  exact BitVec.extractLsb'_append_extractLsb' (w := 16) (len := 15)

@[simp] theorem ShiftRegs.setE_b1 (e : BitVec 31) : (r.setE e).b.getMsbD 0 = r.b.getMsbD 0 :=
  (BitVec.getMsbD_append (x := r.b.extractLsb' 15 1) (y := e.extractLsb' 0 15)).trans (by simp [BitVec.getMsbD])

/-- E1 is A1. -/
theorem ShiftRegs.msb_e : r.e.msb = r.a.msb :=
  (BitVec.msb_append (x := r.a) (y := r.b.extractLsb' 0 15)).trans (if_neg (by decide))

/-- D1 is A1. -/
theorem ShiftRegs.msb_d : r.d.msb = r.a.msb :=
  (BitVec.msb_append (x := r.a) (y := r.b)).trans (if_neg (by decide))

/-- The last bit of D is B16. -/
theorem ShiftRegs.getLsbD_zero_d : r.d.getLsbD 0 = r.b.getMsbD 15 :=
  BitVec.getLsbD_append (x := r.a) (y := r.b)

variable (after : ShiftRegs)

theorem ShiftRegs.noteSignChange_a : (r.noteSignChange after).a = after.a := by
  unfold ShiftRegs.noteSignChange
  split <;> rfl

theorem ShiftRegs.noteSignChange_b : (r.noteSignChange after).b = after.b := by
  unfold ShiftRegs.noteSignChange
  split <;> rfl

theorem ShiftRegs.noteSignChange_e : (r.noteSignChange after).e = after.e := by
  rw [ShiftRegs.e, ShiftRegs.noteSignChange_a, ShiftRegs.noteSignChange_b, ShiftRegs.e]

theorem ShiftRegs.noteSignChange_c : (r.noteSignChange after).c = (after.c || after.a.msb != r.a.msb) := by
  have signs : r.noteSignChange after = if after.a.msb = r.a.msb then after else after.setC true := rfl
  rw [signs]
  split
  · simp [*]
  · simp [*, ShiftRegs.setC]

end Pairs

/-! ## The single-position steps (R151) -/

section Steps

variable (r : ShiftRegs)

theorem rotateLeft16_a : (rotateLeft16 r).a = r.a.rotateLeft 1 := append_highest_eq_rotateLeft_one (w := 15) r.a

theorem rotateLeft16_c : (rotateLeft16 r).c = (rotateLeft16 r).a.getMsbD 15 := by
  rw [rotateLeft16_a]
  exact (getLsbD_zero_rotateLeft_one r.a).symm

theorem rotateRight16_a : (rotateRight16 r).a = r.a.rotateRight 1 := lowest_append_eq_rotateRight_one (w := 15) r.a

theorem rotateRight16_c : (rotateRight16 r).c = (rotateRight16 r).a.getMsbD 0 := by
  rw [rotateRight16_a]
  exact (msb_rotateRight_one r.a).symm

theorem logicalLeft16_a : (logicalLeft16 r).a = r.a <<< 1 := append_zero_eq_shiftLeft_one (w := 15) r.a

theorem logicalLeft16_c : (logicalLeft16 r).c = r.a.msb := rfl

theorem logicalRight16_a : (logicalRight16 r).a = r.a >>> 1 := zero_append_eq_ushiftRight_one (w := 15) r.a

theorem logicalRight16_c : (logicalRight16 r).c = r.a.getLsbD 0 := rfl

theorem arithLeft16_a : (arithLeft16 r).a = r.a <<< 1 :=
  (r.noteSignChange_a _).trans (logicalLeft16_a r)

theorem arithLeft16_c : (arithLeft16 r).c = (r.c || (arithLeft16 r).a.msb != r.a.msb) := by
  rw [arithLeft16, ShiftRegs.noteSignChange_c, ShiftRegs.noteSignChange_a]

theorem arithRight16_a : (arithRight16 r).a = r.a.sshiftRight 1 := highest_append_eq_sshiftRight_one (w := 15) r.a

theorem arithRight16_c : (arithRight16 r).c = r.a.getLsbD 0 := rfl

theorem rotateLeft32_d : (rotateLeft32 r).d = r.d.rotateLeft 1 :=
  (r.setD_d _).trans (append_highest_eq_rotateLeft_one (w := 31) r.d)

theorem rotateLeft32_c : (rotateLeft32 r).c = (rotateLeft32 r).b.getMsbD 15 := by
  rw [← ShiftRegs.getLsbD_zero_d, rotateLeft32_d, getLsbD_zero_rotateLeft_one]
  rfl

theorem rotateRight32_d : (rotateRight32 r).d = r.d.rotateRight 1 :=
  (r.setD_d _).trans (lowest_append_eq_rotateRight_one (w := 31) r.d)

theorem rotateRight32_c : (rotateRight32 r).c = (rotateRight32 r).a.getMsbD 0 := by
  have high := (rotateRight32 r).msb_d
  rw [rotateRight32_d, msb_rotateRight_one] at high
  exact high

theorem logicalLeft32_d : (logicalLeft32 r).d = r.d <<< 1 :=
  (r.setD_d _).trans (append_zero_eq_shiftLeft_one (w := 31) r.d)

theorem logicalLeft32_c : (logicalLeft32 r).c = r.d.msb := rfl

theorem logicalRight32_d : (logicalRight32 r).d = r.d >>> 1 :=
  (r.setD_d _).trans (zero_append_eq_ushiftRight_one (w := 31) r.d)

theorem logicalRight32_c : (logicalRight32 r).c = r.d.getLsbD 0 := rfl

theorem arithLeft31_e : (arithLeft31 r).e = r.e <<< 1 := by
  rw [arithLeft31, ShiftRegs.noteSignChange_e, ShiftRegs.setE_e]
  exact append_zero_eq_shiftLeft_one (w := 30) r.e

theorem arithLeft31_c : (arithLeft31 r).c = (r.c || (arithLeft31 r).e.msb != r.e.msb) := by
  rw [arithLeft31, ShiftRegs.noteSignChange_c, ShiftRegs.noteSignChange_e, ShiftRegs.msb_e, ShiftRegs.msb_e]
  rfl

theorem arithLeft31_b1 : (arithLeft31 r).b.getMsbD 0 = r.b.getMsbD 0 := by
  rw [arithLeft31, ShiftRegs.noteSignChange_b, ShiftRegs.setE_b1]

theorem arithRight31_e : (arithRight31 r).e = r.e.sshiftRight 1 :=
  (r.setE_e _).trans (highest_append_eq_sshiftRight_one (w := 30) r.e)

theorem arithRight31_c : (arithRight31 r).c = r.e.getLsbD 0 := rfl

theorem arithRight31_b1 : (arithRight31 r).b.getMsbD 0 = r.b.getMsbD 0 := r.setE_b1 _

end Steps

/-! ## The statements -/

/-- Settles O43: each step rotates A by one, and leaves in C the bit that came round. -/
theorem rotatesOfA : Obligations.RotatesOfA := by
  refine fun s n =>
    ⟨⟨_, rfl, ?alrA, shifted_b (f := rotateLeft16) (fun _ => rfl) n s, ?alrC, rfl⟩,
      ⟨_, rfl, ?arrA, shifted_b (f := rotateRight16) (fun _ => rfl) n s, ?arrC, rfl⟩⟩
  case alrA => exact view_shifted n s ShiftRegs.a goesByPositions_rotateLeft rotateLeft16_a
  case alrC => exact shifted_c_of_after (out := fun r => r.a.getMsbD 15) n s rotateLeft16_c
  case arrA => exact view_shifted n s ShiftRegs.a goesByPositions_rotateRight rotateRight16_a
  case arrC => exact shifted_c_of_after (out := fun r => r.a.getMsbD 0) n s rotateRight16_c

/-- Settles O44: each step shifts A by one, and leaves in C the bit that went out. -/
theorem logicalShiftsOfA : Obligations.LogicalShiftsOfA := by
  refine fun s n =>
    ⟨⟨_, rfl, ?lglA, shifted_b (f := logicalLeft16) (fun _ => rfl) n s, ?lglC, rfl⟩,
      ⟨_, rfl, ?lgrA, shifted_b (f := logicalRight16) (fun _ => rfl) n s, ?lgrC, rfl⟩⟩
  case lglA => exact view_shifted n s ShiftRegs.a goesByPositions_shiftLeft logicalLeft16_a
  case lglC => exact shifted_c_shiftLeft n s ShiftRegs.a logicalLeft16_a logicalLeft16_c
  case lgrA => exact view_shifted n s ShiftRegs.a goesByPositions_ushiftRight logicalRight16_a
  case lgrC => exact shifted_c_ushiftRight n s ShiftRegs.a logicalRight16_a logicalRight16_c

/-- Settles O45: a step of ALS sets C where the sign changes, which is where the doubled number does not fit; a step of ARS halves
the number, rounding down. -/
theorem arithmeticShiftsOfA : Obligations.ArithmeticShiftsOfA := by
  refine fun s n =>
    ⟨⟨_, rfl, ?alsA, shifted_b arithLeft16_b n s, ?alsC, rfl⟩,
      ⟨_, rfl, ?arsA, shifted_b (f := arithRight16) (fun _ => rfl) n s, ?arsC, rfl⟩⟩
  case alsA => exact view_shifted n s ShiftRegs.a goesByPositions_shiftLeft arithLeft16_a
  case alsC =>
    have lost := shifted_c_eq_true_iff n s ShiftRegs.a arithLeft16_a arithLeft16_c
    rw [FitsTimes, ← Int.le_sub_one_iff] at lost
    exact lost
  case arsA => exact toInt_view_shifted_sshiftRight n s ShiftRegs.a arithRight16_a
  case arsC => exact shifted_c_sshiftRight n s ShiftRegs.a (by decide) arithRight16_a arithRight16_c

/-- Settles O46: each step rotates the pair by one, and leaves in C the bit that came round. -/
theorem longRotates : Obligations.LongRotates := by
  refine fun s n => ⟨⟨_, rfl, ?llrD, ?llrC, rfl⟩, ⟨_, rfl, ?lrrD, ?lrrC, rfl⟩⟩
  case llrD => exact view_shifted n s ShiftRegs.d goesByPositions_rotateLeft rotateLeft32_d
  case llrC => exact shifted_c_of_after (out := fun r => r.b.getMsbD 15) n s rotateLeft32_c
  case lrrD => exact view_shifted n s ShiftRegs.d goesByPositions_rotateRight rotateRight32_d
  case lrrC => exact shifted_c_of_after (out := fun r => r.a.getMsbD 0) n s rotateRight32_c

/-- Settles O47: each step shifts the pair by one, and leaves in C the bit that went out. -/
theorem longLogicalShifts : Obligations.LongLogicalShifts := by
  refine fun s n => ⟨⟨_, rfl, ?lllD, ?lllC, rfl⟩, ⟨_, rfl, ?lrlD, ?lrlC, rfl⟩⟩
  case lllD => exact view_shifted n s ShiftRegs.d goesByPositions_shiftLeft logicalLeft32_d
  case lllC => exact shifted_c_shiftLeft n s ShiftRegs.d logicalLeft32_d logicalLeft32_c
  case lrlD => exact view_shifted n s ShiftRegs.d goesByPositions_ushiftRight logicalRight32_d
  case lrlC => exact shifted_c_ushiftRight n s ShiftRegs.d logicalRight32_d logicalRight32_c

/-- Settles O48: the two arithmetic shifts of O45 on the 31-bit number, each step leaving B1. -/
theorem longArithmeticShifts : Obligations.LongArithmeticShifts := by
  refine fun s n => ⟨⟨_, rfl, ?llsE, ?llsB1, ?llsC, rfl⟩, ⟨_, rfl, ?lrsE, ?lrsB1, ?lrsC, rfl⟩⟩
  case llsE => exact view_shifted n s ShiftRegs.e goesByPositions_shiftLeft arithLeft31_e
  case llsB1 => exact shifted_keeps (g := fun r => r.b.getMsbD 0) n s arithLeft31_b1
  case llsC => exact shifted_c_eq_true_iff n s ShiftRegs.e arithLeft31_e arithLeft31_c
  case lrsE => exact toInt_view_shifted_sshiftRight n s ShiftRegs.e arithRight31_e
  case lrsB1 => exact shifted_keeps (g := fun r => r.b.getMsbD 0) n s arithRight31_b1
  case lrsC =>
    have last := shifted_c_sshiftRight n s ShiftRegs.e (by decide) arithRight31_e arithRight31_c
    rw [ShiftRegs.msb_e] at last
    exact last

end Sys2Proof.Machine
end

section
/-! Input and output (44_input_output.md): INA by what the device answers and by the top bit of F, the next states of the
instructions that skip as the devices answer, and IntRequest after SMK. -/

namespace Sys2Proof.Machine

variable {s : State} {io : IoAddr} {dv : DeviceEnv}

/-! ## INA (R181) -/

/-- IR[7] is the top bit of F, of four bits. -/
theorem clearsFirst_eq (io : IoAddr) : clearsFirst io = decide (8 ≤ io.function.toNat) :=
  BitVec.msb_eq_decide io.function

theorem exec_ina (io : IoAddr) (s : State) : exec (.ina io) s = execIna io s := rfl

/-- A ready device's word is ORed into A, or replaces it where IR[7] clears A first, and one instruction is skipped. -/
theorem exec_ina_of_ready {d : Word} (h : s.dev.ina io = (dv, some d)) :
    exec (.ina io) s = .next { s with
      dev := dv, a := if 8 ≤ io.function.toNat then d else s.a ||| d, p := s.p + 1 } := by
  have ready : exec (.ina io) s =
      .next (((s.setDev dv).setA (if clearsFirst io then d else s.a ||| d)).skip 1) := by
    rw [exec_ina, execIna, h]
  rw [ready, clearsFirst_eq]
  simp only [decide_eq_true_eq]
  rfl

/-- A device that is not ready leaves A where IR[7] does not clear it first. -/
theorem exec_ina_of_notReady_keeping (h : s.dev.ina io = (dv, none)) (hf : io.function.toNat < 8) :
    exec (.ina io) s = .next { s with dev := dv } := by
  have keeps : clearsFirst io = false := by rw [clearsFirst_eq, decide_eq_false (Nat.not_le.mpr hf)]
  rw [exec_ina, execIna, h, keeps]
  rfl

/-- Where IR[7] clears A first, whether a device that is not ready finds A cleared is drawn (the spec's decision D25). -/
theorem exec_ina_of_notReady_clearing (h : s.dev.ina io = (dv, none)) (hf : 8 ≤ io.function.toNat) :
    exec (.ina io) s = .next { s with
      dev := dv, a := if Config.freeClearsWhenNotReady s.draws then 0 else s.a, draws := s.draws + 1 } := by
  have clears : clearsFirst io = true := by rw [clearsFirst_eq, decide_eq_true hf]
  rw [exec_ina, execIna, h, clears]
  rfl

/-! ## OTA and SKS (R183, R185) -/

theorem exec_ota (io : IoAddr) (s : State) :
    exec (.ota io) s = .next { s with
      dev := (s.dev.ota io s.a).1, p := if (s.dev.ota io s.a).2 then s.p + 1 else s.p } :=
  congrArg Host.Outcome.next (State.skipIf_eq _)

theorem exec_sks (io : IoAddr) (s : State) :
    exec (.sks io) s = .next { s with p := if s.dev.sks io then s.p + 1 else s.p } :=
  congrArg Host.Outcome.next (State.skipIf_eq _)

/-! ## The statements -/

/-- Settles O49, by the device's answer and, where it is not ready, by IR[7]. -/
theorem inputToA : Obligations.InputToA := by
  refine ⟨fun s io dv d => exec_ina_of_ready, fun s io dv notReady => ?_⟩
  obtain keeping | clearing := Nat.lt_or_ge io.function.toNat 8
  · exact ⟨_, exec_ina_of_notReady_keeping notReady keeping, rfl, fun _ => rfl, .inl rfl⟩
  · exact ⟨_, exec_ina_of_notReady_clearing notReady clearing, rfl, fun below => absurd clearing (Nat.not_le.mpr below),
      (ite_eq_or_eq _ _ _).symm⟩

/-- Settles O30: SMK leaves A in MASK, and IntRequest is raised exactly by a request that its mask flip-flop lets pass. -/
theorem maskGatesInterruptRequests : Obligations.MaskGatesInterruptRequests :=
  fun s => ⟨_, rfl, DeviceEnv.smk_mask s.dev s.a, DeviceEnv.irq_iff (s.dev.smk s.a)⟩

/-- Settles O50: OCP and SMK change the devices alone, and OTA and SKS skip as the devices answer. -/
theorem outputAndReadyLineInstructions : Obligations.OutputAndReadyLineInstructions :=
  fun s io => ⟨rfl, rfl, DeviceEnv.smk_mask s.dev s.a, exec_ota io s, exec_sks io s⟩

end Sys2Proof.Machine
end

section
/-! Control (45_control.md): a skip as its condition in words, the next states of the instructions with a memory operand, and the
return through a link word. -/

namespace Sys2Proof.Machine

variable {s : State} {y : Addr}

/-! ## Skips on a condition -/

section Skips

variable {cond : Bool} {Q : Prop} [Decidable Q]

/-- A skip taken exactly if Q holds. -/
theorem next_skipIf_of_true_iff (h : cond = true ↔ Q) :
    (.next (s.skipIf cond) : Result State) = .next { s with p := if Q then s.p + 1 else s.p } := by
  rw [State.skipIf_eq]
  simp only [h]

/-- A skip taken exactly unless Q holds. -/
theorem next_skipIf_of_false_iff (h : cond = false ↔ Q) :
    (.next (s.skipIf cond) : Result State) = .next { s with p := if Q then s.p else s.p + 1 } := by
  rw [State.skipIf_eq]
  simp only [← h]
  cases cond <;> rfl

/-- A skip against a condition that says Q. -/
theorem next_skipIf_not_of_true_iff (h : cond = true ↔ Q) :
    (.next (s.skipIf (!cond)) : Result State) = .next { s with p := if Q then s.p else s.p + 1 } :=
  next_skipIf_of_false_iff ((iff_of_eq (Bool.not_eq_false' cond)).trans h)

end Skips

/-! ## The conditions -/

/-- Bit 1 is the sign. -/
theorem bit1_eq_true_iff {w : Word} : bit1 w = true ↔ w.toInt < 0 := by
  have sign : bit1 w = decide (w.toInt < 0) := BitVec.msb_eq_toInt (x := w)
  rw [sign, decide_eq_true_iff]

/-- Bit 16 is the lowest: it is 1 in the odd words. -/
theorem bit16_eq_true_iff {w : Word} : bit16 w = true ↔ w.toNat % 2 = 1 := by
  have lowest : bit16 w = decide (w.toNat % 2 = 1) := Nat.testBit_zero w.toNat
  rw [lowest, decide_eq_true_iff]

theorem SenseSwitches.anyOn_eq_false_iff {w : SenseSwitches} : w.anyOn = false ↔ w = ⟨false, false, false, false⟩ := by
  simp only [SenseSwitches.anyOn, Bool.or_eq_false_iff, and_assoc]
  cases w
  simp only [SenseSwitches.mk.injEq]

/-- '177777 is the one word whose successor is zero. -/
theorem add_one_eq_zero_iff (w : Word) : w + 1 = 0 ↔ w = 0o177777 :=
  add_eq_zero_iff_eq_neg

/-! ## The signed order (R200) -/

theorem compareSkip_of_gt {a w : Word} (h : a.toInt > w.toInt) : compareSkip a w = 0 := if_pos h

theorem compareSkip_of_eq {a w : Word} (h : a = w) : compareSkip a w = 1 := by
  rw [compareSkip, h, if_neg (Int.lt_irrefl _), if_pos rfl]

theorem compareSkip_of_lt {a w : Word} (h : a.toInt < w.toInt) : compareSkip a w = 2 := by
  rw [compareSkip, if_neg (Int.not_lt.mpr (Int.le_of_lt h)), if_neg (Int.ne_of_lt h)]

/-! ## The instructions with a memory operand -/

theorem exec_cas_of_addresses {m : MemRef} (h : Addresses s m y) :
    exec (.cas m) s = .next { s with p := s.p + compareSkip s.a (s.mem.readWord y) } :=
  andThen_operandWord h _

/-- IRS stores the word plus one, and skips exactly if that is zero (R204). -/
theorem exec_irs_of_addresses {m : MemRef} (h : Addresses s m y) :
    exec (.irs m) s = .next { s with
      mem := s.mem.writeWord y (s.mem.readWord y + 1), x := if y = 0 then s.mem.readWord y + 1 else s.x,
      p := if s.mem.readWord y = 0o177777 then s.p + 1 else s.p } := by
  have ⟨_, _, _, hy⟩ := h
  have wraps : (s.mem.readWord y + 1 == 0) = true ↔ s.mem.readWord y = 0o177777 :=
    beq_iff_eq.trans (add_one_eq_zero_iff _)
  calc exec (.irs m) s
    _ = .next (State.skipIf { s with
          mem := s.mem.writeWord y (s.mem.readWord y + 1), x := if y = 0 then s.mem.readWord y + 1 else s.x }
          (s.mem.readWord y + 1 == 0)) :=
      (andThen_operandAddress h _).trans
        (readThenWrite_eq_next (f := (· + 1)) (g := fun w u => u.skipIf (w + 1 == 0)).mpr ⟨hy, rfl⟩)
    _ = _ := next_skipIf_of_true_iff wraps

/-- JMP asks for the address alone, not for the word there (R205). -/
theorem exec_jmp_of_effectiveAddress {m : MemRef} (hd : s.dp = false) (he : s.extmd = false)
    (hy : effectiveAddress s m = .next y) : exec (.jmp m) s = .next { s with p := y } := by
  have address : operandAddress s m = .next y := operandAddress_eq_next.mpr ⟨hd, he, hy⟩
  calc exec (.jmp m) s
    _ = andThen (operandAddress s m) fun z => .next (s.setP z) := rfl
    _ = .next { s with p := y } := by rw [address, andThen_next]; rfl

/-- The link word: bits 1-2 as they were, and the address after the instruction (R206). -/
def linkWord (s : State) (y : Addr) : Word := (s.mem.readWord y).extractLsb' 14 2 ++ s.p

theorem bit1_linkWord (s : State) (y : Addr) : bit1 (linkWord s y) = bit1 (s.mem.readWord y) := bit1_replaceAddress _ _

theorem bit2_linkWord (s : State) (y : Addr) : bit2 (linkWord s y) = bit2 (s.mem.readWord y) := bit2_replaceAddress _ _

theorem addressField_linkWord (s : State) (y : Addr) : addressField (linkWord s y) = s.p := addressField_replaceAddress _ _

theorem exec_jst_of_addresses {m : MemRef} (h : Addresses s m y) :
    exec (.jst m) s = .next { s with
      mem := s.mem.writeWord y (linkWord s y), x := if y = 0 then linkWord s y else s.x, p := y + 1 } := by
  have ⟨_, _, _, hy⟩ := h
  exact (andThen_operandAddress h _).trans (storeLink_eq_next.mpr ⟨hy, rfl⟩)

/-! ## The return through a link word (R205) -/

/-- The chain ends after one address word whose bits 1-2 are 0 (30_encoding.md R66). -/
theorem effectiveAddress_through_plainWord {m : MemRef} (hi : m.indirect = true) (ht : m.indexed = false)
    (hy : sectorAddress s m.ownSector m.disp = y) (hn : y.toNat < s.memSize)
    (h1 : bit1 (s.mem.readWord y) = false) (h2 : bit2 (s.mem.readWord y) = false) :
    effectiveAddress s m = .next (addressField (s.mem.readWord y)) := by
  have last : ChainEnds s (bit1 (s.mem.readWord y)) (indexIf s (bit2 (s.mem.readWord y)) (addressField (s.mem.readWord y)))
      (addressField (s.mem.readWord y)) := by
    rw [h1, h2]
    exact .found _
  rw [effectiveAddress_eq_next, hi, ht, hy]
  exact .hop y _ hn last

/-! ## The statements -/

/-- Settles O51, by how far CAS skips in each case of the signed order. -/
theorem compareSkipsByTheSignedOrder : Obligations.CompareSkipsByTheSignedOrder := by
  intro s m y h
  refine ⟨fun greater => ?_, fun equal => ?_, fun less => ?_⟩
  · rw [exec_cas_of_addresses h, compareSkip_of_gt greater, add_zero]
  · rw [exec_cas_of_addresses h, compareSkip_of_eq equal]
  · rw [exec_cas_of_addresses h, compareSkip_of_lt less]

/-- Settles O52, from the next state of IRS. -/
theorem incrementReplaceAndSkip : Obligations.IncrementReplaceAndSkip :=
  fun _ _ _ hwf h => ⟨_, exec_irs_of_addresses h, stored_of_writeWord hwf rfl rfl, rfl⟩

/-- Settles O54, from the next state of JST and the fields of the link word. -/
theorem jumpAndStoreLocation : Obligations.JumpAndStoreLocation :=
  fun s _ y hwf h => ⟨_, linkWord s y, exec_jst_of_addresses h, stored_of_writeWord hwf rfl rfl,
    bit1_linkWord s y, bit2_linkWord s y, addressField_linkWord s y, rfl⟩

/-- Settles O55: the word JST stored is what JMP* finds, and its address field is P as JST found it. -/
theorem jumpIndirectReturnsFromASubroutine : Obligations.JumpIndirectReturnsFromASubroutine := by
  intro s t u m m' y hwf h h1 h2 jst hmem hsize hd he hi ht hy
  have ⟨_, _, _, installed⟩ := h
  obtain rfl := Host.Outcome.next.inj ((exec_jst_of_addresses h).symm.trans jst)
  have link : u.mem.readWord y = linkWord s y := by
    rw [hmem]
    exact Memory.readWord_writeWord_same hwf y _
  have target : effectiveAddress u m' = .next s.p := by
    rw [effectiveAddress_through_plainWord hi ht hy (hsize ▸ installed) (by rw [link, bit1_linkWord, h1])
      (by rw [link, bit2_linkWord, h2]), link, addressField_linkWord]
  exact exec_jmp_of_effectiveAddress hd he target

/-- Settles O56: each is a skip on A or against it, with bit 1 as the sign and bit 16 as the parity. -/
theorem skipsOnA : Obligations.SkipsOnA :=
  ⟨.of_encode rfl rfl rfl, .of_encode rfl rfl rfl, .of_encode rfl rfl rfl,
    .of_encode rfl rfl rfl, .of_encode rfl rfl rfl, .of_encode rfl rfl rfl, fun _ =>
    ⟨next_skipIf_of_true_iff beq_iff_eq, next_skipIf_not_of_true_iff beq_iff_eq,
      next_skipIf_of_true_iff bit1_eq_true_iff, next_skipIf_not_of_true_iff bit1_eq_true_iff,
      next_skipIf_of_true_iff bit16_eq_true_iff, next_skipIf_not_of_true_iff bit16_eq_true_iff⟩⟩

/-- Settles O53, from the next state of JMP. -/
theorem jumpLoadsPWithTheAddress : Obligations.JumpLoadsPWithTheAddress :=
  fun _ _ _ hd he hy => exec_jmp_of_effectiveAddress hd he hy

/-- Settles O57: the two skips test C itself, and the others are one update each. -/
theorem skipsOnCAndSettingsOfC : Obligations.SkipsOnCAndSettingsOfC :=
  ⟨.of_encode rfl rfl rfl, .of_encode rfl rfl rfl, .of_encode rfl rfl rfl,
    .of_encode rfl rfl rfl, .of_encode rfl rfl rfl, .of_encode rfl rfl rfl, fun s =>
    ⟨rfl, rfl, next_skipIf_not_of_true_iff Iff.rfl, next_skipIf_of_true_iff Iff.rfl, rfl, rfl,
      complete_eq .nop s⟩⟩

/-- Settles O58: eight skips on one switch or against it, and two on whether any is ON. -/
theorem senseSwitchSkips : Obligations.SenseSwitchSkips :=
  ⟨.of_encode rfl rfl rfl, .of_encode rfl rfl rfl, .of_encode rfl rfl rfl, .of_encode rfl rfl rfl,
    .of_encode rfl rfl rfl, .of_encode rfl rfl rfl, .of_encode rfl rfl rfl, .of_encode rfl rfl rfl,
    .of_encode rfl rfl rfl, .of_encode rfl rfl rfl, fun _ =>
    ⟨next_skipIf_not_of_true_iff Iff.rfl, next_skipIf_not_of_true_iff Iff.rfl,
      next_skipIf_not_of_true_iff Iff.rfl, next_skipIf_not_of_true_iff Iff.rfl,
      next_skipIf_of_true_iff Iff.rfl, next_skipIf_of_true_iff Iff.rfl,
      next_skipIf_of_true_iff Iff.rfl, next_skipIf_of_true_iff Iff.rfl,
      next_skipIf_of_true_iff ((iff_of_eq (Bool.not_eq_true' _)).trans SenseSwitches.anyOn_eq_false_iff),
      next_skipIf_of_false_iff SenseSwitches.anyOn_eq_false_iff⟩⟩

/-- Settles O59: each is an update of PI, PIDELAY or HALT. -/
theorem interruptPermissionAndHalt : Obligations.InterruptPermissionAndHalt :=
  ⟨.of_encode rfl rfl rfl, .of_encode rfl rfl rfl, .of_encode rfl rfl rfl, fun _ => ⟨rfl, rfl, rfl⟩⟩

end Sys2Proof.Machine
end

section
/-! Half words (46_half_word.md R250 to R254): the halves of a word as numbers, the word two halves make, and from them A after
each of the five instructions. -/

namespace Sys2Proof.Machine

/-! ## The halves of a word, as numbers -/

theorem leftHalf_toNat (w : Word) : (leftHalf w).toNat = w.toNat / 256 := by
  rw [leftHalf, BitVec.extractLsb'_toNat, Nat.shiftRight_eq_div_pow]
  exact Nat.mod_eq_of_lt (Nat.div_lt_of_lt_mul w.isLt)

theorem rightHalf_toNat (w : Word) : (rightHalf w).toNat = w.toNat % 256 := by
  rw [rightHalf, BitVec.extractLsb'_toNat, Nat.shiftRight_zero]

/-! ## The word two halves make -/

theorem appendHalves_toNat (l r : Byte) : (l ++ r : Word).toNat = l.toNat * 256 + r.toNat := toNat_append_eq_add l r

theorem zero_append_half_toNat (r : Byte) : (0#8 ++ r : Word).toNat = r.toNat := by
  rw [appendHalves_toNat, BitVec.toNat_zero, Nat.zero_mul, Nat.zero_add]

theorem half_append_zero_toNat (l : Byte) : (l ++ 0#8 : Word).toNat = l.toNat * 256 := by
  rw [appendHalves_toNat, BitVec.toNat_zero, Nat.add_zero]

/-! ## The statement -/

/-- Settles O42: the words are the encoder's, and each instruction is one update of A, by a half next to the other half or to
zeros. -/
theorem halfWordInstructions : Obligations.HalfWordInstructions := by
  refine ⟨.of_encode rfl rfl rfl, .of_encode rfl rfl rfl, .of_encode rfl rfl rfl, .of_encode rfl rfl rfl,
    .of_encode rfl rfl rfl, fun s =>
    ⟨⟨_, rfl, ?cal⟩, ⟨_, rfl, ?car⟩, ⟨_, rfl, ?ica⟩, ⟨_, rfl, ?icl⟩, ⟨_, rfl, ?icr⟩⟩⟩
  case cal => rw [zero_append_half_toNat, rightHalf_toNat]
  case car => rw [half_append_zero_toNat, leftHalf_toNat]
  case ica => rw [appendHalves_toNat, rightHalf_toNat, leftHalf_toNat]
  case icl => rw [zero_append_half_toNat, leftHalf_toNat]
  case icr => rw [half_append_zero_toNat, rightHalf_toNat]

end Sys2Proof.Machine
end

section
/-! ENB's one-instruction delay (60_exceptions.md R266), the return from a handler (R269), and the source's cycle and time columns
(70_reset_and_hazards.md R320). -/

namespace Sys2Proof.Machine

variable {s t : State}

/-! ## The interrupt at an instruction boundary (60_exceptions.md R265) -/

theorem interruptRecognised_of_piDelay (hd : s.piDelay = true) : interruptRecognised s = false := by
  simp [interruptRecognised, hd]

theorem interruptRecognised_of_not_permitted (hp : s.pi = false) : interruptRecognised s = false := by
  simp [interruptRecognised, hp]

/-! ## One executed instruction -/

/-- A running machine that recognises no interrupt completes the instruction at P. -/
theorem step_of_exec_eq_next {i : Instr} (hs : s.halt = false) (hi : interruptRecognised (tick s) = false)
    (hp : s.p.toNat < s.memSize) (hd : decode (s.mem.readWord s.p) = .ok i)
    (hx : exec i { tick s with p := s.p + 1 } = .next t) : step s = .next (complete i t) := by
  rw [step_uninterrupted hs hi (fetchDecode_tick hp hd), advance_tick, hx, andThen_next]

/-- The surroundings move alike whatever P, PI and PIDELAY are. -/
theorem tick_of_control (s : State) (y : Addr) (permit delay : Bool) :
    tick { s with p := y, pi := permit, piDelay := delay } =
      { tick s with p := y, pi := permit, piDelay := delay } := by
  unfold tick
  cases s.operator.next <;> rfl

/-! ## ENB's delay (60_exceptions.md R266) -/

theorem interruptEntry_piDelay (h : interruptEntry s = .next t) : t.piDelay = false := by
  obtain ⟨-, y, -, -, rfl⟩ := interruptEntry_eq_next.mp h
  rfl

/-- Once an instruction is complete, PIDELAY is 1 exactly if it was ENB, which set it. -/
theorem complete_piDelay {i : Instr} {u : State} (h : exec i s = .next u) : (complete i u).piDelay = true ↔ i = .enb := by
  rw [complete_eq]
  by_cases hi : i = .enb
  · subst hi
    cases h
    simp
  · simp [hi]

/-! ## The return from a handler (60_exceptions.md R269) -/

/-- Of the state, the sector takes P alone (30_encoding.md R66). -/
theorem sectorAddress_congr (hp : s.p = t.p) (o : Bool) (d : BitVec 9) : sectorAddress s o d = sectorAddress t o d := by
  rw [sectorAddress, sectorAddress, State.here, State.here, hp]

/-- The state ENB leaves after one step. -/
def afterEnb (s : State) : State := { tick s with p := s.p + 1, pi := true, piDelay := true }

/-- ENB, where interrupts are not permitted yet. -/
theorem step_enb (hs : s.halt = false) (hpi : s.pi = false) (hp : s.p.toNat < s.memSize)
    (hd : decode (s.mem.readWord s.p) = .ok .enb) : step s = .next (afterEnb s) :=
  step_of_exec_eq_next hs (interruptRecognised_of_not_permitted ((tick_pi s).trans hpi)) hp hd rfl

theorem tick_afterEnb (s : State) :
    tick (afterEnb s) = { tick (tick s) with p := s.p + 1, pi := true, piDelay := true } :=
  tick_of_control (tick s) (s.p + 1) true true

/-- Whatever the surroundings do, the instruction after ENB is executed. -/
theorem interruptRecognised_tick_afterEnb (s : State) : interruptRecognised (tick (afterEnb s)) = false :=
  interruptRecognised_of_piDelay (by rw [tick_afterEnb])

/-- JMP* through an address word whose bits 1-2 are 0 goes to its address. -/
theorem exec_jmp_through_addressWord {m : MemRef} {link ret : Addr} (hd : s.dp = false) (he : s.extmd = false)
    (hi : m.indirect = true) (ht : m.indexed = false) (hl : sectorAddress s m.ownSector m.disp = link)
    (hn : link.toNat < s.memSize) (hw : s.mem.readWord link = addressWord false false ret) :
    exec (.jmp m) s = .next { s with p := ret } := by
  have target : effectiveAddress s m = .next ret := by
    rw [effectiveAddress_through_plainWord hi ht hl hn (by rw [hw, bit1_addressWord]) (by rw [hw, bit2_addressWord]),
      hw, addressField_addressWord]
  exact exec_jmp_of_effectiveAddress hd he target

/-- A step over such a JMP*: the surroundings' move, the jump, and PIDELAY cleared at its completion. -/
theorem step_jmp_through_addressWord {m : MemRef} {link ret : Addr} (hs : s.halt = false)
    (hr : interruptRecognised (tick s) = false) (hp : s.p.toNat < s.memSize)
    (hj : decode (s.mem.readWord s.p) = .ok (.jmp m)) (hd : s.dp = false) (he : s.extmd = false)
    (hi : m.indirect = true) (ht : m.indexed = false) (hl : sectorAddress (advance s) m.ownSector m.disp = link)
    (hn : link.toNat < s.memSize) (hw : s.mem.readWord link = addressWord false false ret) :
    step s = .next { tick s with p := ret, piDelay := false } := by
  have jumped : exec (.jmp m) { tick s with p := s.p + 1 } = .next { tick s with p := ret } :=
    exec_jmp_through_addressWord ((tick_dp s).trans hd) ((tick_extmd s).trans he) hi ht
      ((sectorAddress_congr rfl _ _).trans hl) (by simpa using hn) (by simpa using hw)
  exact step_of_exec_eq_next hs hr hp hj jumped

/-! ## The statements -/

/-- Settles O28: interrupt entry clears PIDELAY, and of the instructions ENB alone leaves it 1. -/
theorem interruptsAreHeldOffForOneInstructionAfterEnb : Obligations.InterruptsAreHeldOffForOneInstructionAfterEnb := by
  refine ⟨?afterStep, fun t hd => interruptRecognised_of_piDelay ((tick_piDelay t).trans hd)⟩
  case afterStep =>
    intro s t hs h
    rcases step_eq_next.mp h with ⟨halted, -, -⟩ | ⟨-, entered, entry⟩ | ⟨-, uninterrupted, i, _, fetched, executed, rfl⟩
    · simp [hs] at halted
    · simp [entered, interruptEntry_piDelay entry]
    · have word : decode (s.mem.readWord s.p) = .ok i := by simpa using (fetchDecode_eq_next.mp fetched).2
      simp [complete_piDelay executed, uninterrupted, word]

/-- Settles O29: ENB's PIDELAY holds the interrupt back while JMP* goes to the address in the link word. -/
theorem enbAndJumpIndirectReturnFromTheHandler : Obligations.EnbAndJumpIndirectReturnFromTheHandler := by
  intro s m link ret hs hpi hdp hex hp hp' hlink enb jmp hi ht hl hw
  have operand : sectorAddress (advance (afterEnb s)) m.ownSector m.disp = link :=
    (sectorAddress_congr (add_assoc s.p 1 1) _ _).trans hl
  have returned : step (afterEnb s) = .next { tick (afterEnb s) with p := ret, piDelay := false } :=
    step_jmp_through_addressWord (tick_running hs) (interruptRecognised_tick_afterEnb s) (by simpa [afterEnb] using hp')
      (by simpa [afterEnb] using jmp) ((tick_dp s).trans hdp) ((tick_extmd s).trans hex) hi ht operand
      (by simpa [afterEnb] using hlink) (by simpa [afterEnb] using hw)
  exact ⟨_, step_enb hs hpi hp enb, interruptRecognised_tick_afterEnb s, by rw [returned, tick_afterEnb]⟩

/-- Settles O31: each figure is the column's, and a time is the map of the cycles. -/
theorem cycleAndTimeColumns : Obligations.CycleAndTimeColumns := by
  refine ⟨fun m => ⟨rfl, rfl, rfl, rfl, rfl, rfl, rfl, rfl, rfl, rfl, rfl⟩, fun m => ⟨rfl, rfl⟩, ?shifts,
    fun io => ⟨rfl, rfl, rfl, rfl⟩, rfl, rfl, rfl, rfl, ?oneCycle, ?time, rfl⟩
  case shifts => simp [halfCycles]
  case oneCycle => decide
  case time => exact fun i h cycles => congrArg (Option.map (48 * ·)) cycles

end Sys2Proof.Machine
end
